-- ==== Sys2Proof/Word.lean ====
section
/-! DEFINITION. The word of the host link and the desk line: a byte (R184, R82). -/

namespace Sys2Proof

/-- One byte on the host link or one data character on the desk line. -/
abbrev Byte := BitVec 8

/-- A run of bytes, the first sent first. -/
abbrev Bytes := List (BitVec 8)

end Sys2Proof
end

