-- ==== Sys2Proof/Config.lean ====
section
/-! DEFINITION. What the HG410 fixes (the sizes and limits its chapters state) and the one value its manual leaves
open, an opaque constant. -/

namespace Sys2Proof.Config

/-- R1: slots of the roll, 0 to 2,399. -/
def rollSlots : Nat := 2400
/-- R3, R8: records in one ROLL_WRITE or ROLL_READ. -/
def rollRun : Nat := 24
/-- R30: the last day number, 2099-12-31. -/
def lastDay : Nat := 36524
/-- 00 1.8: seconds in a day. -/
def daySeconds : Nat := 86400
/-- R25: sub-ticks in a second. -/
def subTicks : Nat := 1024
/-- R45: running entries of one track. -/
def runningEntries : Nat := 44
/-- R40: entries of one stored plan. -/
def planEntries : Nat := 40
/-- R45, R61: inserted entries of one track in a day. -/
def insertedEntries : Nat := 4
/-- R68: steps of one pattern. -/
def patternSteps : Nat := 8
/-- R72: jobs that may wait for the chime line. -/
def chimeQueue : Nat := 8
/-- R94: taps in the tap queue. -/
def tapQueue : Nat := 32
/-- R115: entries on the off-site list. -/
def offsiteList : Nat := 128
/-- R117: records in the arrivals log. -/
def arrivalsLog : Nat := 512
/-- R119, R145: records or entries in one read. -/
def readRun : Nat := 32
/-- R139: entries in the reason book. -/
def bookEntries : Nat := 256
/-- R141: days ahead that a report may be dated. -/
def bookHorizon : Nat := 14
/-- R150: notices in the queue. -/
def notices : Nat := 192
/-- R150: notices out with the host at once. -/
def handedNotices : Nat := 8
/-- R171: dated exceptions in the calendar. -/
def exceptions : Nat := 96
/-- R173, R174: exceptions or dates in one request or reply. -/
def calendarRun : Nat := 24
/-- R89: misses in a row that take a terminal OFFLINE. -/
def missLimit : Nat := 3
/-- R185: the largest payload length of a frame. -/
def payloadLimit : Nat := 1040
/-- The limit of every counter of sixteen bits (R80, R87, R118, R167, R195). -/
def counterTop : Nat := 65535

/-- DESIGN CHOICE, safe (log 5): what a notice day counter holds after it is raised at 65,535. R167 gives the
counters the range 0 to 65,535 and does not say that they saturate or wrap, so the value is free; the argument
is how many free values the Notice Queue has drawn before. -/
opaque freeNoticeCount : Nat → BitVec 16

end Sys2Proof.Config
end

