-- ==== Sys2Proof/Syntax.lean ====
section
/-! DEFINITION. The commands: one constructor of `Instr` for each row of spec/opcode_table.json, in the table's order.
A request's operands are its fields as R188 puts them on the link, each wide enough for every value that can be sent;
an event's operands are what the outside brings with it. -/

namespace Sys2Proof

/-- R188: a time of day on the link, three BCD bytes hh, mm, ss. -/
structure TimeField where
  hour : Byte
  minute : Byte
  second : Byte
  deriving DecidableEq, Repr

/-- R188: a date on the link, three BCD bytes yy, mm, dd. -/
structure DateField where
  year : Byte
  month : Byte
  day : Byte
  deriving DecidableEq, Repr

/-- R3: one record of ROLL_WRITE. -/
structure RollItem where
  card : BitVec 32
  number : BitVec 24
  track : Byte
  contact : Byte
  deriving DecidableEq, Repr

/-- R41: one entry of PLAN_LOAD. -/
structure PlanItem where
  time : TimeField
  kind : Byte
  session : Byte
  zones : Byte
  pattern : Byte
  deriving DecidableEq, Repr

/-- R61: one entry of TRACK_INSERT. -/
structure InsertItem where
  time : TimeField
  zones : Byte
  pattern : Byte
  deriving DecidableEq, Repr

/-- R70: one step of PATTERN_LOAD. -/
structure StepItem where
  tone : Byte
  onUnits : Byte
  offUnits : Byte
  repeats : Byte
  deriving DecidableEq, Repr

/-- R173: one exception of CALENDAR_LOAD, with its six selections in track order. -/
structure ExceptionItem where
  date : DateField
  closed : Byte
  termStart : Byte
  selections : Vector Byte 6
  deriving DecidableEq, Repr

/-- R173, R188: what CALENDAR_LOAD carries after its form byte; `other` is a form byte that names no form. -/
inductive CalendarBody where
  | weekday (selections : List Byte)
  | exceptions (items : List ExceptionItem)
  | remove (dates : List DateField)
  | other (form : Byte) (rest : Bytes)
  deriving DecidableEq, Repr

/-- R174, R188: what CALENDAR_READ carries; a part byte that names neither part may stand alone or with two more. -/
inductive CalendarPart where
  | weekday
  | exceptions (position count : Byte)
  | other (part : Byte) (rest : Option (Byte × Byte))
  deriving DecidableEq, Repr

/-- The commands of the table. -/
inductive Instr where
  | status
  | eventsClear (set : Byte)
  | eventsMask (set : Byte)
  | configWrite (id index : Byte) (value : BitVec 16)
  | configRead (id index : Byte)
  | partReset
  | clockRead
  | clockSet (date : DateField) (time : TimeField)
  | clockTrim (trim : Byte)
  | rollWrite (start : BitVec 16) (records : List RollItem)
  | rollRemove (index : BitVec 16)
  | rollRead (start : BitVec 16) (count : Byte)
  | termClear
  | markSet (index : BitVec 16) (session source value minutes reason explained : Byte)
  | planLoad (plan : Byte) (entries : List PlanItem)
  | planRead (plan : Byte)
  | trackDelay (track first minutes : Byte)
  | trackInsert (track : Byte) (entries : List InsertItem)
  | trackSilence (track value : Byte)
  | trackRead (track : Byte)
  | patternLoad (pattern : Byte) (steps : List StepItem)
  | patternRead (pattern : Byte)
  | ringNow (zones pattern : Byte)
  | ringStop (zones : Byte)
  | ringRead
  | terminalRead
  | signIn (index : BitVec 16)
  | signOut (index : BitVec 16) (reason : Byte)
  | offsiteRead
  | arrivalsRead (start : BitVec 16) (count : Byte)
  | sweepRead
  | reportAdd (index : BitVec 16) (date : DateField) (scope reason origin : Byte)
  | reportCancel (index : BitVec 16) (date : DateField)
  | bookRead (position count : Byte)
  | noticeTake
  | noticeOutcome (slot : Byte) (creation : BitVec 16) (outcome : Byte)
  | noticeHold (value : Byte)
  | noticeOrder (order : Byte)
  | noticeCounts
  | calendarLoad (body : CalendarBody)
  | calendarRead (part : CalendarPart)
  | summaryRead (selector : Byte)
  | linkError (kind : Byte)
  | unknownKind (kind : Byte)
  | lengthOverLimit
  | brokenFrame
  | overlappedFrame
  | replyEnd
  | subTick
  | secondCountUp
  | entryFire
  | onPeriodEnd (job : BitVec 16)
  | offPeriodEnd (job : BitVec 16)
  | chimeWaitDegrade
  | offlinePollDue (terminal : Byte)
  | pollStart
  | pollSent
  | replyReceived (characters : Bytes)
  | replyFault
  | characterGapTimeout
  | replyTimeout
  | quietTimeEnd
  | tapJudgement
  | sweepDispatch
  | sweepVisit
  | sweepComplete
  | noticeRelease
  | handedTimeout
  | rolloverStage2
  | rolloverStage3
  | rolloverWalkSlot
  | rolloverStage5
  | rolloverComplete
  | retainEntry
  | resetNLow
  | powerReturn
  | pinReset
  | requestedStart
  | syncByte
  | replyAddressCharacter (value : Byte)
  | batteryLoss
  deriving DecidableEq, Repr

end Sys2Proof
end

