-- ==== Sys2Proof/WellFormed.lean ====
section
/-! DEFINITION. Which commands can come about as they are written: a request that fits one frame (R185, R188), an
event whose operands the line or the pins can bring. A command that is not well-formed still has a meaning. -/

namespace Sys2Proof

/-- R189: a kind code names a request. -/
def namesRequest (k : Byte) : Bool :=
  (1 ≤ k.toNat && k.toNat ≤ 6) || (0x10 ≤ k.toNat && k.toNat ≤ 0x12) || (0x20 ≤ k.toNat && k.toNat ≤ 0x24) ||
    (0x30 ≤ k.toNat && k.toNat ≤ 0x35) || (0x40 ≤ k.toNat && k.toNat ≤ 0x44) || k.toNat = 0x48 ||
    (0x50 ≤ k.toNat && k.toNat ≤ 0x53) || k.toNat = 0x58 || (0x60 ≤ k.toNat && k.toNat ≤ 0x62) ||
    (0x68 ≤ k.toNat && k.toNat ≤ 0x6C) || (0x70 ≤ k.toNat && k.toNat ≤ 0x72)

/-- R185: a payload of a fixed part and items of a fixed size fits a frame. -/
def fits (fixed size count : Nat) : Bool := fixed + size * count ≤ Config.payloadLimit

/-- R173, R188: a calendar load that fits; `other` stands for a form byte that names no form. -/
def CalendarBody.wellFormed : CalendarBody → Bool
  | .weekday l => fits 1 1 l.length
  | .exceptions l => fits 1 11 l.length
  | .remove l => fits 1 3 l.length
  | .other form rest => 3 ≤ form.toNat && fits 1 1 rest.length

/-- R174, R188: `other` stands for a part byte that names no part. -/
def CalendarPart.wellFormed : CalendarPart → Bool
  | .weekday => true
  | .exceptions _ _ => true
  | .other part _ => 2 ≤ part.toNat

/-- A command that can come about as it is written. -/
def Instr.wellFormed : Instr → Bool
  | .rollWrite _ l => fits 2 9 l.length
  | .planLoad _ l => fits 1 7 l.length
  | .trackInsert _ l => fits 1 5 l.length
  | .patternLoad _ l => fits 1 4 l.length
  | .calendarLoad b => b.wellFormed
  | .calendarRead p => p.wellFormed
  | .unknownKind k => !namesRequest k
  | .offlinePollDue t => 1 ≤ t.toNat && t.toNat ≤ 4
  | .replyReceived l => l.length = 2 || l.length = 8
  | .status => true
  | .eventsClear _ => true
  | .eventsMask _ => true
  | .configWrite _ _ _ => true
  | .configRead _ _ => true
  | .partReset => true
  | .clockRead => true
  | .clockSet _ _ => true
  | .clockTrim _ => true
  | .rollRemove _ => true
  | .rollRead _ _ => true
  | .termClear => true
  | .markSet _ _ _ _ _ _ _ => true
  | .planRead _ => true
  | .trackDelay _ _ _ => true
  | .trackSilence _ _ => true
  | .trackRead _ => true
  | .patternRead _ => true
  | .ringNow _ _ => true
  | .ringStop _ => true
  | .ringRead => true
  | .terminalRead => true
  | .signIn _ => true
  | .signOut _ _ => true
  | .offsiteRead => true
  | .arrivalsRead _ _ => true
  | .sweepRead => true
  | .reportAdd _ _ _ _ _ => true
  | .reportCancel _ _ => true
  | .bookRead _ _ => true
  | .noticeTake => true
  | .noticeOutcome _ _ _ => true
  | .noticeHold _ => true
  | .noticeOrder _ => true
  | .noticeCounts => true
  | .summaryRead _ => true
  | .linkError _ => true
  | .lengthOverLimit => true
  | .brokenFrame => true
  | .overlappedFrame => true
  | .replyEnd => true
  | .subTick => true
  | .secondCountUp => true
  | .entryFire => true
  | .onPeriodEnd _ => true
  | .offPeriodEnd _ => true
  | .chimeWaitDegrade => true
  | .pollStart => true
  | .pollSent => true
  | .replyFault => true
  | .characterGapTimeout => true
  | .replyTimeout => true
  | .quietTimeEnd => true
  | .tapJudgement => true
  | .sweepDispatch => true
  | .sweepVisit => true
  | .sweepComplete => true
  | .noticeRelease => true
  | .handedTimeout => true
  | .rolloverStage2 => true
  | .rolloverStage3 => true
  | .rolloverWalkSlot => true
  | .rolloverStage5 => true
  | .rolloverComplete => true
  | .retainEntry => true
  | .resetNLow => true
  | .powerReturn => true
  | .pinReset => true
  | .requestedStart => true
  | .syncByte => true
  | .replyAddressCharacter _ => true
  | .batteryLoss => true

end Sys2Proof
end

