-- ==== Sys2Proof/Decode.lean ====
section
/-! DEFINITION. Reading commands: `decodeTableWord` over the table (which gives no row any bits), and the frames of the
host link, which do spell the requests (R184 to R189): the CRC, the payload of every request read and written, and
what the Link Interface makes of a whole frame. -/

namespace Sys2Proof

/-- The command a word spells by the table's bits. The table gives no row any bits, so no word spells one (log 1). -/
def decodeTableWord (_nbits _w : Nat) : Option Instr := none

/-! ### The CRC (R185) -/

/-- R185: one shift of the CRC register. -/
def crcShift (r : BitVec 16) : BitVec 16 := if r.msb then (r <<< 1) ^^^ 0x1021#16 else r <<< 1

/-- R185: one byte enters the CRC register. -/
def crcByte (r : BitVec 16) (b : Byte) : BitVec 16 :=
  crcShift (crcShift (crcShift (crcShift (crcShift (crcShift (crcShift (crcShift (r ^^^ (b ++ 0#8)))))))))

/-- R185: the CRC of a run of bytes. -/
def crc16 (l : Bytes) : BitVec 16 := l.foldl crcByte 0xFFFF#16

/-! ### Fields of several bytes (R188) -/

/-- Two bytes, the most significant first. -/
def join16 (a b : Byte) : BitVec 16 := a ++ b

/-- Three bytes, the most significant first. -/
def join24 (a b c : Byte) : BitVec 24 := a ++ b ++ c

/-- Four bytes, the most significant first. -/
def join32 (a b c d : Byte) : BitVec 32 := a ++ b ++ c ++ d

/-- The bytes of a field of two. -/
def bytes16 (x : BitVec 16) : Bytes := [x.extractLsb' 8 8, x.extractLsb' 0 8]

/-- The bytes of a field of three. -/
def bytes24 (x : BitVec 24) : Bytes := [x.extractLsb' 16 8, x.extractLsb' 8 8, x.extractLsb' 0 8]

/-- The bytes of a field of four. -/
def bytes32 (x : BitVec 32) : Bytes :=
  [x.extractLsb' 24 8, x.extractLsb' 16 8, x.extractLsb' 8 8, x.extractLsb' 0 8]

/-! ### Reading payloads (R188) -/

/-- No field. -/
def read0 (i : Instr) : Bytes → Option Instr
  | [] => some i
  | _ => none

/-- One field of one byte. -/
def read1 (f : Byte → Instr) : Bytes → Option Instr
  | [a] => some (f a)
  | _ => none

/-- Two fields of one byte. -/
def read2 (f : Byte → Byte → Instr) : Bytes → Option Instr
  | [a, b] => some (f a b)
  | _ => none

/-- Three fields of one byte. -/
def read3 (f : Byte → Byte → Byte → Instr) : Bytes → Option Instr
  | [a, b, c] => some (f a b c)
  | _ => none

/-- R193: the fields of CONFIG_WRITE. -/
def readConfigWrite : Bytes → Option Instr
  | [id, index, v1, v0] => some (.configWrite id index (join16 v1 v0))
  | _ => none

/-- R34: the fields of CLOCK_SET. -/
def readClockSet : Bytes → Option Instr
  | [yy, mo, dd, hh, mi, ss] =>
    some (.clockSet { year := yy, month := mo, day := dd } { hour := hh, minute := mi, second := ss })
  | _ => none

/-- R3: the records of ROLL_WRITE. -/
def readRecords : Bytes → Option (List RollItem)
  | [] => some []
  | c3 :: c2 :: c1 :: c0 :: n2 :: n1 :: n0 :: t :: k :: l =>
    (readRecords l).map fun r => { card := join32 c3 c2 c1 c0, number := join24 n2 n1 n0, track := t, contact := k } :: r
  | _ => none

/-- R3: the fields of ROLL_WRITE. -/
def readRollWrite : Bytes → Option Instr
  | i1 :: i0 :: l => (readRecords l).map fun r => .rollWrite (join16 i1 i0) r
  | _ => none

/-- One field of two bytes. -/
def readWord (f : BitVec 16 → Instr) : Bytes → Option Instr
  | [a, b] => some (f (join16 a b))
  | _ => none

/-- A field of two bytes and one of one. -/
def readWordByte (f : BitVec 16 → Byte → Instr) : Bytes → Option Instr
  | [a, b, c] => some (f (join16 a b) c)
  | _ => none

/-- R13: the fields of MARK_SET. -/
def readMarkSet : Bytes → Option Instr
  | [i1, i0, k, a, v, m, r, e] => some (.markSet (join16 i1 i0) k a v m r e)
  | _ => none

/-- R41: the entries of PLAN_LOAD. -/
def readPlanItems : Bytes → Option (List PlanItem)
  | [] => some []
  | hh :: mi :: ss :: k :: n :: z :: p :: l =>
    (readPlanItems l).map fun r =>
      { time := { hour := hh, minute := mi, second := ss }, kind := k, session := n, zones := z, pattern := p } :: r
  | _ => none

/-- R41: the fields of PLAN_LOAD. -/
def readPlanLoad : Bytes → Option Instr
  | p :: l => (readPlanItems l).map fun r => .planLoad p r
  | _ => none

/-- R61: the entries of TRACK_INSERT. -/
def readInsertItems : Bytes → Option (List InsertItem)
  | [] => some []
  | hh :: mi :: ss :: z :: p :: l =>
    (readInsertItems l).map fun r =>
      { time := { hour := hh, minute := mi, second := ss }, zones := z, pattern := p } :: r
  | _ => none

/-- R61: the fields of TRACK_INSERT. -/
def readTrackInsert : Bytes → Option Instr
  | t :: l => (readInsertItems l).map fun r => .trackInsert t r
  | _ => none

/-- R70: the steps of PATTERN_LOAD. -/
def readSteps : Bytes → Option (List StepItem)
  | [] => some []
  | t :: on :: off :: n :: l =>
    (readSteps l).map fun r => { tone := t, onUnits := on, offUnits := off, repeats := n } :: r
  | _ => none

/-- R70: the fields of PATTERN_LOAD. -/
def readPatternLoad : Bytes → Option Instr
  | p :: l => (readSteps l).map fun r => .patternLoad p r
  | _ => none

/-- R142: the fields of REPORT_ADD. -/
def readReportAdd : Bytes → Option Instr
  | [i1, i0, yy, mo, dd, c, r, o] =>
    some (.reportAdd (join16 i1 i0) { year := yy, month := mo, day := dd } c r o)
  | _ => none

/-- R144: the fields of REPORT_CANCEL. -/
def readReportCancel : Bytes → Option Instr
  | [i1, i0, yy, mo, dd] => some (.reportCancel (join16 i1 i0) { year := yy, month := mo, day := dd })
  | _ => none

/-- R160, R188: the handle and outcome of NOTICE_OUTCOME. -/
def readNoticeOutcome : Bytes → Option Instr
  | [slot, c1, c0, o] => some (.noticeOutcome slot (join16 c1 c0) o)
  | _ => none

/-- R173: the exceptions of CALENDAR_LOAD. -/
def readExceptionItems : Bytes → Option (List ExceptionItem)
  | [] => some []
  | yy :: mo :: dd :: c :: t :: s0 :: s1 :: s2 :: s3 :: s4 :: s5 :: l =>
    (readExceptionItems l).map fun r =>
      { date := { year := yy, month := mo, day := dd }, closed := c, termStart := t,
        selections := #v[s0, s1, s2, s3, s4, s5] } :: r
  | _ => none

/-- R173: the dates of CALENDAR_LOAD. -/
def readDates : Bytes → Option (List DateField)
  | [] => some []
  | yy :: mo :: dd :: l => (readDates l).map fun r => { year := yy, month := mo, day := dd } :: r
  | _ => none

/-- R173, R188: the form byte decides how the rest of CALENDAR_LOAD is read. -/
def readCalendarLoad : Bytes → Option Instr
  | form :: l =>
    if form = 0#8 then some (.calendarLoad (.weekday l))
    else if form = 1#8 then (readExceptionItems l).map fun r => .calendarLoad (.exceptions r)
    else if form = 2#8 then (readDates l).map fun r => .calendarLoad (.remove r)
    else some (.calendarLoad (.other form l))
  | [] => none

/-- R174, R188: CALENDAR_READ is allowed at one byte or at three. -/
def readCalendarRead : Bytes → Option Instr
  | [part] =>
    if part = 0#8 then some (.calendarRead .weekday)
    else if part = 1#8 then none
    else some (.calendarRead (.other part none))
  | [part, position, count] =>
    if part = 0#8 then none
    else if part = 1#8 then some (.calendarRead (.exceptions position count))
    else some (.calendarRead (.other part (some (position, count))))
  | _ => none

/-- R188, R189: every request's kind code, and how its payload is read; none where the length is not allowed. -/
def requestTable : List (Nat × (Bytes → Option Instr)) :=
  [(0x01, read0 .status), (0x02, read1 .eventsClear), (0x03, read1 .eventsMask), (0x04, readConfigWrite),
   (0x05, read2 .configRead), (0x06, read0 .partReset),
   (0x10, read0 .clockRead), (0x11, readClockSet), (0x12, read1 .clockTrim),
   (0x20, readRollWrite), (0x21, readWord .rollRemove), (0x22, readWordByte .rollRead), (0x23, read0 .termClear),
   (0x24, readMarkSet),
   (0x30, readPlanLoad), (0x31, read1 .planRead), (0x32, read3 .trackDelay), (0x33, readTrackInsert),
   (0x34, read2 .trackSilence), (0x35, read1 .trackRead),
   (0x40, readPatternLoad), (0x41, read1 .patternRead), (0x42, read2 .ringNow), (0x43, read1 .ringStop),
   (0x44, read0 .ringRead),
   (0x48, read0 .terminalRead),
   (0x50, readWord .signIn), (0x51, readWordByte .signOut), (0x52, read0 .offsiteRead),
   (0x53, readWordByte .arrivalsRead),
   (0x58, read0 .sweepRead),
   (0x60, readReportAdd), (0x61, readReportCancel), (0x62, read2 .bookRead),
   (0x68, read0 .noticeTake), (0x69, readNoticeOutcome), (0x6A, read1 .noticeHold), (0x6B, read1 .noticeOrder),
   (0x6C, read0 .noticeCounts),
   (0x70, readCalendarLoad), (0x71, readCalendarRead), (0x72, read1 .summaryRead)]

/-- A row of a table, by its number. -/
def rowOf {α : Type} (k : Nat) : List (Nat × α) → Option α
  | [] => none
  | (j, a) :: l => if j = k then some a else rowOf k l

/-- R189: how the payload of a kind is read; none where the kind names no request. -/
def readerOf (kind : Byte) : Option (Bytes → Option Instr) := rowOf kind.toNat requestTable

/-! ### Whole frames (R184 to R186) -/

/-- R184: the sync byte. -/
def syncByte : Byte := 0xC3#8

/-- R185: the length bytes of a payload. -/
def lengthBytes (payload : Bytes) : Bytes := bytes16 (BitVec.ofNat 16 payload.length)

/-- R185: the bytes of a frame that the CRC covers. -/
def covered (kind : Byte) (payload : Bytes) : Bytes := lengthBytes payload ++ kind :: payload

/-- R185: a frame. -/
def frame (kind : Byte) (payload : Bytes) : Bytes :=
  syncByte :: (covered kind payload ++ bytes16 (crc16 (covered kind payload)))

/-- R186: what an ordinary frame comes to, in the order of the rule's checks. -/
def judgeFrame (kind : Byte) (payload : Bytes) (crc : Bytes) : Instr :=
  if crc = bytes16 (crc16 (covered kind payload)) then
    match readerOf kind with
    | none => .unknownKind kind
    | some read =>
      match read payload with
      | some i => i
      | none => .linkError kind
  else .linkError kind

/-- R184, R185: a sync byte and the bytes that follow it to the end of one frame, read as the command that end is;
none where the bytes are not one whole frame. -/
def receive : Bytes → Option Instr
  | s :: n1 :: n0 :: l =>
    if s ≠ syncByte then none
    else if Config.payloadLimit < (join16 n1 n0).toNat then (if l.isEmpty then some .lengthOverLimit else none)
    else
      match l with
      | kind :: body =>
        if body.length = (join16 n1 n0).toNat + 2 then
          some (judgeFrame kind (body.take (join16 n1 n0).toNat) (body.drop (join16 n1 n0).toNat))
        else none
      | [] => none
  | _ => none

/-! ### Writing requests (R188, R189) -/

/-- A date as three bytes. -/
def dateBytes (d : DateField) : Bytes := [d.year, d.month, d.day]

/-- A time of day as three bytes. -/
def timeBytes (t : TimeField) : Bytes := [t.hour, t.minute, t.second]

/-- R3: a record of ROLL_WRITE. -/
def rollItemBytes (r : RollItem) : Bytes := bytes32 r.card ++ bytes24 r.number ++ [r.track, r.contact]

/-- R41: an entry of PLAN_LOAD. -/
def planItemBytes (e : PlanItem) : Bytes := timeBytes e.time ++ [e.kind, e.session, e.zones, e.pattern]

/-- R61: an entry of TRACK_INSERT. -/
def insertItemBytes (e : InsertItem) : Bytes := timeBytes e.time ++ [e.zones, e.pattern]

/-- R70: a step of PATTERN_LOAD. -/
def stepItemBytes (p : StepItem) : Bytes := [p.tone, p.onUnits, p.offUnits, p.repeats]

/-- R173: an exception of CALENDAR_LOAD. -/
def exceptionItemBytes (x : ExceptionItem) : Bytes :=
  dateBytes x.date ++ [x.closed, x.termStart] ++ x.selections.toList

/-- R173: what CALENDAR_LOAD carries. -/
def CalendarBody.bytes : CalendarBody → Bytes
  | .weekday l => 0#8 :: l
  | .exceptions l => 1#8 :: l.flatMap exceptionItemBytes
  | .remove l => 2#8 :: l.flatMap dateBytes
  | .other form rest => form :: rest

/-- R174: what CALENDAR_READ carries. -/
def CalendarPart.bytes : CalendarPart → Bytes
  | .weekday => [0#8]
  | .exceptions position count => [1#8, position, count]
  | .other part none => [part]
  | .other part (some (a, b)) => [part, a, b]

/-- R188, R189: the kind code and payload of a request; none for an event. -/
def Instr.request : Instr → Option (Byte × Bytes)
  | .status => some (0x01#8, [])
  | .eventsClear set => some (0x02#8, [set])
  | .eventsMask set => some (0x03#8, [set])
  | .configWrite id index value => some (0x04#8, id :: index :: bytes16 value)
  | .configRead id index => some (0x05#8, [id, index])
  | .partReset => some (0x06#8, [])
  | .clockRead => some (0x10#8, [])
  | .clockSet date time => some (0x11#8, dateBytes date ++ timeBytes time)
  | .clockTrim trim => some (0x12#8, [trim])
  | .rollWrite start records => some (0x20#8, bytes16 start ++ records.flatMap rollItemBytes)
  | .rollRemove index => some (0x21#8, bytes16 index)
  | .rollRead start count => some (0x22#8, bytes16 start ++ [count])
  | .termClear => some (0x23#8, [])
  | .markSet index session source value minutes reason explained =>
    some (0x24#8, bytes16 index ++ [session, source, value, minutes, reason, explained])
  | .planLoad plan entries => some (0x30#8, plan :: entries.flatMap planItemBytes)
  | .planRead plan => some (0x31#8, [plan])
  | .trackDelay track first minutes => some (0x32#8, [track, first, minutes])
  | .trackInsert track entries => some (0x33#8, track :: entries.flatMap insertItemBytes)
  | .trackSilence track value => some (0x34#8, [track, value])
  | .trackRead track => some (0x35#8, [track])
  | .patternLoad pattern steps => some (0x40#8, pattern :: steps.flatMap stepItemBytes)
  | .patternRead pattern => some (0x41#8, [pattern])
  | .ringNow zones pattern => some (0x42#8, [zones, pattern])
  | .ringStop zones => some (0x43#8, [zones])
  | .ringRead => some (0x44#8, [])
  | .terminalRead => some (0x48#8, [])
  | .signIn index => some (0x50#8, bytes16 index)
  | .signOut index reason => some (0x51#8, bytes16 index ++ [reason])
  | .offsiteRead => some (0x52#8, [])
  | .arrivalsRead start count => some (0x53#8, bytes16 start ++ [count])
  | .sweepRead => some (0x58#8, [])
  | .reportAdd index date scope reason origin =>
    some (0x60#8, bytes16 index ++ dateBytes date ++ [scope, reason, origin])
  | .reportCancel index date => some (0x61#8, bytes16 index ++ dateBytes date)
  | .bookRead position count => some (0x62#8, [position, count])
  | .noticeTake => some (0x68#8, [])
  | .noticeOutcome slot creation outcome => some (0x69#8, slot :: (bytes16 creation ++ [outcome]))
  | .noticeHold value => some (0x6A#8, [value])
  | .noticeOrder order => some (0x6B#8, [order])
  | .noticeCounts => some (0x6C#8, [])
  | .calendarLoad body => some (0x70#8, body.bytes)
  | .calendarRead part => some (0x71#8, part.bytes)
  | .summaryRead selector => some (0x72#8, [selector])
  | .linkError _ => none
  | .unknownKind _ => none
  | .lengthOverLimit => none
  | .brokenFrame => none
  | .overlappedFrame => none
  | .replyEnd => none
  | .subTick => none
  | .secondCountUp => none
  | .entryFire => none
  | .onPeriodEnd _ => none
  | .offPeriodEnd _ => none
  | .chimeWaitDegrade => none
  | .offlinePollDue _ => none
  | .pollStart => none
  | .pollSent => none
  | .replyReceived _ => none
  | .replyFault => none
  | .characterGapTimeout => none
  | .replyTimeout => none
  | .quietTimeEnd => none
  | .tapJudgement => none
  | .sweepDispatch => none
  | .sweepVisit => none
  | .sweepComplete => none
  | .noticeRelease => none
  | .handedTimeout => none
  | .rolloverStage2 => none
  | .rolloverStage3 => none
  | .rolloverWalkSlot => none
  | .rolloverStage5 => none
  | .rolloverComplete => none
  | .retainEntry => none
  | .resetNLow => none
  | .powerReturn => none
  | .pinReset => none
  | .requestedStart => none
  | .syncByte => none
  | .replyAddressCharacter _ => none
  | .batteryLoss => none

end Sys2Proof
end

