-- ==== Sys2Proof/Machine/State.lean ====
section
/-! DEFINITION. The state of the HG410 as plain data, block by block, and the machine after a cold start. -/

namespace Sys2Proof.Machine

/-! ### Names shared by the blocks -/

/-- A timetable track, 0 to 5 (00 1.8). -/
abbrev Track := Fin 6

/-- A session of a track's day (00 1.8). -/
inductive Session where
  | s1
  | s2
  deriving DecidableEq, Repr

/-- A date and time of day as the clock holds them (R25). -/
structure Stamp where
  date : Nat
  seconds : Nat
  deriving DecidableEq, Repr

/-- R9, R139: a reason of absence or lateness, in the order of R188's codes. -/
inductive Reason where
  | unwell
  | appointment
  | family
  | travelDelay
  | excursion
  | otherAuthorised
  deriving DecidableEq, Repr

/-! ### Roll Store -/

/-- R9: the seven mark values, in the manual's order. -/
inductive MarkValue where
  | none
  | present
  | late
  | lateClosed
  | authorised
  | unexplained
  | notRequired
  deriving DecidableEq, Repr

/-- R9: who wrote a mark, in the manual's order. -/
inductive MarkSource where
  | none
  | tap
  | teacher
  | office
  | sweep
  | report
  deriving DecidableEq, Repr

/-- R9: the mark of one pupil for one session. -/
structure Mark where
  value : MarkValue
  source : MarkSource
  minutes : Nat
  charge : Nat
  counted : Bool
  explained : Bool
  reason : Option Reason
  delivered : Bool
  deriving DecidableEq, Repr

/-- R1: one pupil record. -/
structure Pupil where
  card : Nat
  number : Nat
  track : Track
  contact : Bool
  mark1 : Mark
  mark2 : Mark
  lateCount : Nat
  lateMinutes : Nat
  deriving DecidableEq, Repr

/-- R1: the roll, a list of occupied slots and their records with the slot numbers rising. -/
abbrev Roll := List (Nat × Pupil)

/-- R1: the card index, a list of card ids and roll indexes with the card ids rising. -/
abbrev CardIndex := List (Nat × Nat)

/-! ### Calendar Clock -/

/-- R25: what the clock holds. -/
structure Clock where
  date : Nat
  seconds : Nat
  prescaler : Nat
  held : Bool
  isSet : Bool
  deriving DecidableEq, Repr

/-- R28: the count-ups handed to each block and not yet acted on by it, oldest first (log 3). -/
structure CountUps where
  bells : List Stamp
  waits : List Stamp
  releases : List Stamp
  timeouts : List Stamp
  deriving DecidableEq, Repr

/-! ### Bell Sequencer -/

/-- R40: what an entry does besides ringing, with its session where it has one. -/
inductive EntryKind where
  | plain
  | sessionOpen (session : Session)
  | registerClose (session : Session)
  | dayClose
  deriving DecidableEq, Repr

/-- R40: an entry of a stored plan; `zones` has bit n set for zone n. -/
structure PlanEntry where
  time : Nat
  kind : EntryKind
  zones : BitVec 8
  pattern : Fin 16
  deriving DecidableEq, Repr

/-- R45: whether a running entry has fired, and how. -/
inductive FireState where
  | pending
  | rung
  | passed
  deriving DecidableEq, Repr

/-- R45: a running entry; its effective time is computed from `entry.time` and `delay`. -/
structure RunningEntry where
  entry : PlanEntry
  delay : Int
  state : FireState
  inserted : Bool
  deriving DecidableEq, Repr

/-- R47: the states of a session. -/
inductive SessionState where
  | notOpen
  | opened
  | closing
  | closed
  deriving DecidableEq, Repr

/-- R48: the states of a track's day. -/
inductive DayState where
  | active
  | ended
  deriving DecidableEq, Repr

/-- R45: one track's running plan; its cursor and inserted count are computed. -/
structure RunningPlan where
  plan : Option (Fin 16)
  entries : List RunningEntry
  day : DayState
  session1 : Option SessionState
  session2 : Option SessionState
  silence : Bool
  deriving DecidableEq, Repr

/-! ### Ring Unit -/

/-- R68: one step of a pattern. -/
structure PatternStep where
  tone : Nat
  onUnits : Nat
  offUnits : Nat
  repeats : Nat
  deriving DecidableEq, Repr

/-- R72: who asked for a ring. -/
inductive Origin where
  | track (track : Track) (entry : Nat)
  | office
  deriving DecidableEq, Repr

/-- R69, R73: how far a PLAYING job has come: the step (from 0), the repeats left of it, whether it is in the on
period, and whether the job holds the chime line. -/
structure Play where
  step : Nat
  repeatsLeft : Nat
  sounding : Bool
  holdsChime : Bool
  deriving DecidableEq, Repr

/-- R72: a ring job; `play` is none while the job is WAITING. A job that has ENDED has given up its record. -/
structure Job where
  number : Nat
  zones : BitVec 8
  steps : List PatternStep
  origin : Origin
  created : Stamp
  waited : Nat
  degraded : Bool
  play : Option Play
  deriving DecidableEq, Repr

/-- The Ring Unit: the pattern store (R68), the jobs in order of creation (R72), the job number counter (R72) and
the count of rings degraded today (R80). Zone owners, chime holder and chime queue are read from the jobs. -/
structure RingUnit where
  patterns : Vector (List PatternStep) 16
  jobs : List Job
  nextJob : Nat
  degradedToday : Nat
  deriving DecidableEq, Repr

/-! ### Desk Line Controller and Arrival Processor -/

/-- R100: the verdicts, in the order of their codes 1 to 12. -/
inductive VerdictCode where
  | onTime
  | late
  | lateClosed
  | lateExplained
  | repeated
  | returned
  | signedOut
  | alreadyOut
  | offsiteFull
  | notExpected
  | outsideDay
  | unknownCard
  deriving DecidableEq, Repr

/-- R100: a verdict. -/
structure Verdict where
  code : VerdictCode
  minutes : Nat
  number : Nat
  deriving DecidableEq, Repr

/-- R94: what a tap asks for; an OUT tap carries its reason. -/
inductive TapKind where
  | tapIn
  | tapOut (reason : Reason)
  deriving DecidableEq, Repr

/-- R94: a stamped tap; `terminal` is 0 to 3 for the addresses 1 to 4. -/
structure Tap where
  stamp : Stamp
  terminal : Fin 4
  card : Nat
  kind : TapKind
  deriving DecidableEq, Repr

/-- R87: the states of a terminal. -/
inductive TerminalState where
  | disabled
  | offline
  | online
  deriving DecidableEq, Repr

/-- R87: one terminal record; `due` says that an OFFLINE terminal's offline poll has fallen due (R90). -/
structure Terminal where
  state : TerminalState
  consecutive : Nat
  tapQueued : Bool
  slot : Option Verdict
  due : Bool
  taken : Nat
  discarded : Nat
  misses : Nat
  deriving DecidableEq, Repr

/-- R86: how far a poll exchange has come: the poll is being sent, the reply is waited for, or the reply is being
taken in after an address character of the value given. -/
inductive ExchangePhase where
  | sending
  | waiting
  | receiving (address : Byte)
  deriving DecidableEq, Repr

/-- R82: a character on the desk line, with its address mark. -/
structure LineChar where
  mark : Bool
  value : Byte
  deriving DecidableEq, Repr

/-- R83, R91: an open poll exchange, with the poll frame sent. -/
structure Exchange where
  terminal : Fin 4
  ready : Bool
  carries : Option Verdict
  frame : List LineChar
  phase : ExchangePhase
  deriving DecidableEq, Repr

/-- R86: the desk line. -/
inductive DeskLine where
  | idle
  | exchange (open_ : Exchange)
  | quiet
  deriving DecidableEq, Repr

/-- The Desk Line Controller: the terminal records (R87), the tap queue, oldest first (R94), the line (R86) and the
last ONLINE terminal polled in the round (R90). -/
structure Desk where
  terminals : Vector Terminal 4
  taps : List Tap
  line : DeskLine
  round : Option (Fin 4)
  deriving DecidableEq, Repr

/-- R115: an entry of the off-site list. -/
structure OffsiteEntry where
  pupil : Nat
  seconds : Nat
  reason : Reason
  deriving DecidableEq, Repr

/-- R117: a record of the arrivals log; `terminal` is 0 for the office, and `isOut`
says that the kind is OUT. -/
structure LogRecord where
  sequence : Nat
  stamp : Stamp
  pupil : Option Nat
  terminal : Nat
  isOut : Bool
  verdict : VerdictCode
  session : Option Session
  minutes : Nat
  deriving DecidableEq, Repr

/-- The Arrival Processor (R115, R117, R118). -/
structure Arrivals where
  offsite : List OffsiteEntry
  log : List LogRecord
  nextSequence : Nat
  overwrites : Nat
  deriving DecidableEq, Repr

/-! ### Sweep Engine -/

/-- R122, R124: a sweep request, and whether a start placed it. -/
structure SweepRequest where
  track : Track
  session : Session
  byStart : Bool
  deriving DecidableEq, Repr

/-- R129: the five counts of a sweep. -/
structure SweepCounts where
  offsite : Nat
  book : Nat
  unexplained : Nat
  offers : Nat
  left : Nat
  deriving DecidableEq, Repr

/-- R124: the sweep in flight. -/
structure SweepFlight where
  request : SweepRequest
  dispatched : Stamp
  position : Nat
  counts : SweepCounts
  deriving DecidableEq, Repr

/-- R130: the last sweep result. -/
structure SweepResult where
  request : SweepRequest
  dispatched : Stamp
  counts : SweepCounts
  completed : Stamp
  deriving DecidableEq, Repr

/-- The Sweep Engine (R122, R124, R130). -/
structure Sweep where
  queue : List SweepRequest
  flight : Option SweepFlight
  last : Option SweepResult
  deriving DecidableEq, Repr

/-! ### Reason Book -/

/-- R140: which sessions a report covers. -/
inductive Scope where
  | s1
  | s2
  | both
  | arrivingLate
  deriving DecidableEq, Repr

/-- R139: who made a report. -/
inductive ReportOrigin where
  | parent
  | office
  deriving DecidableEq, Repr

/-- R139: an entry of the reason book. -/
structure BookEntry where
  pupil : Nat
  date : Nat
  scope : Scope
  reason : Reason
  origin : ReportOrigin
  used : Bool
  contradicted : Bool
  deriving DecidableEq, Repr

/-! ### Notice Queue -/

/-- R150: what a parent is to be told, with the fields of that kind; `closed` is yes for the verdict LATE_CLOSED. -/
inductive NoticeKind where
  | absence (session : Session)
  | arrived (session : Session)
  | late (session : Session) (minutes : Nat) (closed : Bool)
  | pattern (lateCount : Nat)
  deriving DecidableEq, Repr

/-- R150: the supersede modes of a HANDED notice. -/
inductive Supersede where
  | none
  | withArrival
  | silent
  deriving DecidableEq, Repr

/-- R150: the states of a notice, with the fields each state has. -/
inductive NoticeState where
  | held (release : Nat)
  | ready
  | handed (time : Stamp) (seconds : Nat) (mode : Supersede)
  deriving DecidableEq, Repr

/-- R150: one notice. -/
structure Notice where
  slot : Nat
  creation : Nat
  kind : NoticeKind
  pupil : Nat
  number : Nat
  date : Nat
  state : NoticeState
  attempts : Nat
  deriving DecidableEq, Repr

/-- R167: the seven day counters, in the manual's order. -/
structure NoticeCounters where
  created : Nat
  delivered : Nat
  abandoned : Nat
  withdrawn : Nat
  expired : Nat
  evicted : Nat
  dropped : Nat
  deriving DecidableEq, Repr

/-- The Notice Queue (R150, R151, R157, R167): the notices in order of creation. `drawn` is the model's own field,
how many free values have been drawn for a counter raised past 65,535 (log 5). -/
structure NoticeQueue where
  list : List Notice
  nextCreation : Nat
  order : Fin 6
  hold : Bool
  counters : NoticeCounters
  drawn : Nat
  deriving DecidableEq, Repr

/-! ### Day Controller -/

/-- R172: an exception's selection for a track. -/
inductive Selection where
  | plan (number : Fin 16)
  | none
  | byWeekday
  deriving DecidableEq, Repr

/-- R172: a dated exception (its date is its key in the list that holds it). -/
structure CalendarException where
  closed : Bool
  termStart : Bool
  selections : Vector Selection 6
  deriving DecidableEq, Repr

/-- R175: a rollover in flight, at a stage from 1 to 6. -/
structure Rollover where
  old : Nat
  new : Nat
  stage : Nat
  position : Nat
  termStart : Option Bool
  selections : Option (Vector (Option (Fin 16)) 6)
  deriving DecidableEq, Repr

/-- R180: one track's part of a day summary; the counts stand in the order of the mark values. -/
structure TrackSummary where
  plan : Option (Fin 16)
  pupils : Nat
  session1 : Vector Nat 7
  session2 : Vector Nat 7
  deriving DecidableEq, Repr

/-- R180: a day summary; `closedBy` is the new date of the closing rollover and whether it cleared the tallies. -/
structure DaySummary where
  date : Nat
  closedBy : Option (Nat × Bool)
  tracks : Vector TrackSummary 6
  lateMinutes : Nat
  notices : NoticeCounters
  tapsDiscarded : Nat
  overwrites : Nat
  degraded : Nat
  notReturned : Nat
  bookUsed : Nat
  bookContradicted : Nat
  bookUnused : Nat
  deriving DecidableEq, Repr

/-- The Day Controller's calendar, date and summary (R171); exceptions are keyed by date, rising. -/
structure Days where
  today : Nat
  weekdays : Vector (Vector (Option (Fin 16)) 6) 7
  exceptions : List (Nat × CalendarException)
  rollover : Option Rollover
  closed : Option DaySummary
  deriving DecidableEq, Repr

/-! ### Power, starts and the Link Interface -/

/-- R183: the causes of a start, in the manual's order. -/
inductive StartCause where
  | cold
  | powerReturn
  | pinReset
  | requested
  deriving DecidableEq, Repr

/-- R171: the start record. -/
structure StartRecord where
  cause : StartCause
  time : Stamp
  lastRetain : Option Stamp
  deriving DecidableEq, Repr

/-- R182, R183: the supply (`mains`: FULL, else RETAIN), the reset pin, a power return that waits for RESET_N to
rise, whether the battery holds, the signature of retained memory, and the start record. -/
structure Power where
  mains : Bool
  resetLow : Bool
  startWaiting : Bool
  battery : Bool
  signature : Bool
  record : StartRecord
  deriving DecidableEq, Repr

/-- R184, R186: the receiver; a frame being taken in is marked when it is an overlapped frame. -/
inductive Receiver where
  | hunt
  | inFrame (overlapped : Bool)
  deriving DecidableEq, Repr

/-- R185, R186: the reply being sent for the request in hand; `thenStart` marks the reply to PART_RESET (R183). -/
structure Reply where
  kind : Byte
  payload : Bytes
  thenStart : Bool
  deriving DecidableEq, Repr

/-- The Link Interface (R184 to R190, R195). `raised` holds the classes SWEEP_DONE to START that are pending, one
bit per class as R190 numbers them; NOTICE_READY and CLOCK are pending by their conditions. -/
structure Link where
  receiver : Receiver
  inHand : Option Reply
  startRequested : Bool
  raised : BitVec 8
  mask : BitVec 8
  broken : Nat
  overlapped : Nat
  bad : Nat
  deriving DecidableEq, Repr

/-- R193: the configuration parameters; bit n - 1 of `enabled` is terminal n. -/
structure Params where
  grace : Vector Nat 6
  settle : Vector Nat 6
  lateNotices : Vector Bool 6
  absenceNotices : Vector Bool 6
  patternEvery : Nat
  catchUp : Nat
  reRing : Nat
  chimeWait : Nat
  zoneRank : Vector Nat 8
  handedTimeout : Nat
  attemptLimit : Nat
  enabled : BitVec 4
  deriving DecidableEq, Repr

/-! ### The machine -/

/-- The whole block: its eleven blocks, its power state, and `pending`, the commands that wait, first in, first out. -/
structure State where
  pending : List Instr
  power : Power
  link : Link
  params : Params
  clock : Clock
  countUps : CountUps
  roll : Roll
  cards : CardIndex
  plans : Vector (List PlanEntry) 16
  running : Vector RunningPlan 6
  ring : RingUnit
  desk : Desk
  arrivals : Arrivals
  sweep : Sweep
  book : List BookEntry
  notices : NoticeQueue
  days : Days
  deriving DecidableEq, Repr

/-- No command stops with a fault: the spec calls none of them undefined and gives the block no fault exit, so this
type has no constructor. -/
inductive Fault where
  deriving DecidableEq, Repr

/-- The reasons a command can be refused. -/
inductive Refusal where
  /-- Raised by `exec` for a command that has no meaning yet; safe, since nothing is claimed of it. No arm of this
  model raises it. -/
  | notModelled (mnemonic : String)
  deriving DecidableEq, Repr

/-- R65: the running plan of a track with no plan today. -/
def noPlan : RunningPlan :=
  { plan := none, entries := [], day := .ended, session1 := none, session2 := none, silence := false }

/-- R68: the cold default of pattern 0. -/
def defaultPattern : List PatternStep := [{ tone := 0, onUnits := 60, offUnits := 0, repeats := 1 }]

/-- R98: a terminal record after a cold start. -/
def coldTerminal : Terminal :=
  { state := .disabled, consecutive := 0, tapQueued := false, slot := none, due := false,
    taken := 0, discarded := 0, misses := 0 }

/-- R193: every parameter at its default. -/
def defaultParams : Params :=
  { grace := Vector.replicate 6 120, settle := Vector.replicate 6 30,
    lateNotices := Vector.replicate 6 true, absenceNotices := Vector.replicate 6 true,
    patternEvery := 5, catchUp := 60, reRing := 300, chimeWait := 60,
    zoneRank := #v[0, 1, 2, 3, 4, 5, 6, 7], handedTimeout := 10, attemptLimit := 3, enabled := 0#4 }

/-- R167: the day counters at zero. -/
def zeroCounters : NoticeCounters :=
  { created := 0, delivered := 0, abandoned := 0, withdrawn := 0, expired := 0, evicted := 0, dropped := 0 }

/-- The machine right after a cold start: the cold value of every chapter (R2, R39, R65, R68, R81, R98, R121, R122,
R131, R139, R170, R171, R183, R193, R195). -/
def State.reset : State :=
  { pending := []
    power := { mains := true, resetLow := false, startWaiting := false, battery := true,
               signature := true, record := { cause := .cold, time := { date := 0, seconds := 0 }, lastRetain := none } }
    link := { receiver := .hunt, inHand := none, startRequested := false, raised := 0x40#8, mask := 0#8,
              broken := 0, overlapped := 0, bad := 0 }
    params := defaultParams
    clock := { date := 0, seconds := 0, prescaler := 0, held := false, isSet := false }
    countUps := { bells := [], waits := [], releases := [], timeouts := [] }
    roll := []
    cards := []
    plans := Vector.replicate 16 []
    running := Vector.replicate 6 noPlan
    ring := { patterns := (Vector.replicate 16 []).set 0 defaultPattern, jobs := [], nextJob := 0, degradedToday := 0 }
    desk := { terminals := Vector.replicate 4 coldTerminal, taps := [], line := .idle, round := none }
    arrivals := { offsite := [], log := [], nextSequence := 0, overwrites := 0 }
    sweep := { queue := [], flight := none, last := none }
    book := []
    notices := { list := [], nextCreation := 0, order := 0, hold := false, counters := zeroCounters, drawn := 0 }
    days := { today := 0, weekdays := Vector.replicate 7 (Vector.replicate 6 none), exceptions := [],
              rollover := none, closed := none } }

end Sys2Proof.Machine
end

