-- ==== Sys2Proof/Machine/Operands.lean ====
section
/-! DEFINITION. Operand forms: the fields of a request as R188 codes them, read into the values the blocks use, and
the coding of every value that a reply carries. Dates by R30 and R31. -/

namespace Sys2Proof.Machine

/-! ### Dates (R30, R31) -/

/-- R30: days before month `m` in a common year. -/
def daysBeforeMonth : Nat → Nat
  | 2 => 31
  | 3 => 59
  | 4 => 90
  | 5 => 120
  | 6 => 151
  | 7 => 181
  | 8 => 212
  | 9 => 243
  | 10 => 273
  | 11 => 304
  | 12 => 334
  | _ => 0

/-- 02 2.3: days in month `m` of year `y`. -/
def monthLength (y m : Nat) : Nat :=
  if m = 2 then (if y % 4 = 0 then 29 else 28)
  else if m = 4 ∨ m = 6 ∨ m = 9 ∨ m = 11 then 30
  else 31

/-- R30: the day number of a date. -/
def dayNumber (y m d : Nat) : Nat :=
  365 * y + (y + 3) / 4 + daysBeforeMonth m + (if y % 4 = 0 ∧ 2 < m then 1 else 0) + (d - 1)

/-- The largest number below `n` at which `p` holds, 0 where there is none. -/
def largestBelow (p : Nat → Bool) : Nat → Nat
  | 0 => 0
  | n + 1 => if p n then n else largestBelow p n

/-- R30: the year of a day number, the largest whose 1 January is not above it. -/
def yearOf (n : Nat) : Nat := largestBelow (fun y => dayNumber y 1 1 ≤ n) 100

/-- R30: the month of a day number, the largest whose first day in its year is not above it. -/
def monthOf (n : Nat) : Nat := largestBelow (fun m => 1 ≤ m ∧ dayNumber (yearOf n) m 1 ≤ n) 13

/-- R30: the day of the month of a day number. -/
def dayOfMonth (n : Nat) : Nat := n - dayNumber (yearOf n) (monthOf n) 1 + 1

/-- R31: the weekday of a day number, 0 for Monday. -/
def weekdayOf (n : Nat) : Fin 7 := ⟨(n + 5) % 7, Nat.mod_lt _ (by decide)⟩

/-! ### Request fields (R188) -/

/-- R34: both four-bit groups of a BCD byte are digits. -/
def bcdOk (b : Byte) : Bool := b.toNat / 16 ≤ 9 && b.toNat % 16 ≤ 9

/-- The number a BCD byte stands for. -/
def bcd (b : Byte) : Nat := b.toNat / 16 * 10 + b.toNat % 16

/-- R41, R61: a time field whose digits and ranges are right. -/
def timeOk (t : TimeField) : Bool :=
  bcdOk t.hour && bcdOk t.minute && bcdOk t.second && bcd t.hour ≤ 23 && bcd t.minute ≤ 59 && bcd t.second ≤ 59

/-- The seconds of day of a time field. -/
def timeSeconds (t : TimeField) : Nat := bcd t.hour * 3600 + bcd t.minute * 60 + bcd t.second

/-- R142, R144, R173: a date field that names a date as it stands, with no day clamped. -/
def dateOk (d : DateField) : Bool :=
  bcdOk d.year && bcdOk d.month && bcdOk d.day && 1 ≤ bcd d.month && bcd d.month ≤ 12 &&
    1 ≤ bcd d.day && bcd d.day ≤ monthLength (bcd d.year) (bcd d.month)

/-- The day number of a date field. -/
def dateDay (d : DateField) : Nat := dayNumber (bcd d.year) (bcd d.month) (bcd d.day)

/-- R188: a track. -/
def trackOf (b : Byte) : Option Track := if h : b.toNat < 6 then some ⟨b.toNat, h⟩ else none

/-- R188: a plan or a pattern. -/
def sixteenOf (b : Byte) : Option (Fin 16) := if h : b.toNat < 16 then some ⟨b.toNat, h⟩ else none

/-- R188: a session. -/
def sessionOf (b : Byte) : Option Session :=
  if b = 1#8 then some .s1 else if b = 2#8 then some .s2 else none

/-- R188: yes or no, on or off. -/
def flagOf (b : Byte) : Option Bool := if b = 0#8 then some false else if b = 1#8 then some true else none

/-- R188: a reason. -/
def reasonOf (b : Byte) : Option Reason :=
  if b = 0#8 then some .unwell
  else if b = 1#8 then some .appointment
  else if b = 2#8 then some .family
  else if b = 3#8 then some .travelDelay
  else if b = 4#8 then some .excursion
  else if b = 5#8 then some .otherAuthorised
  else none

/-- R113: the four reasons of a sign-out. -/
def signOutReason (r : Reason) : Bool :=
  r = .appointment || r = .unwell || r = .family || r = .otherAuthorised

/-- R84: the reason of an OUT tap on the desk line, which has codes of its own. -/
def tapReasonOf (b : Byte) : Option Reason :=
  if b = 1#8 then some .appointment
  else if b = 2#8 then some .unwell
  else if b = 3#8 then some .family
  else if b = 4#8 then some .otherAuthorised
  else none

/-- R139: a scope. -/
def scopeOf (b : Byte) : Option Scope :=
  if b = 0#8 then some .s1
  else if b = 1#8 then some .s2
  else if b = 2#8 then some .both
  else if b = 3#8 then some .arrivingLate
  else none

/-- R139: the origin of a report. -/
def reportOriginOf (b : Byte) : Option ReportOrigin :=
  if b = 0#8 then some .parent else if b = 1#8 then some .office else none

/-- R9: a mark value by its position in the manual's list. -/
def markValueOf (b : Byte) : Option MarkValue :=
  if b = 0#8 then some .none
  else if b = 1#8 then some .present
  else if b = 2#8 then some .late
  else if b = 3#8 then some .lateClosed
  else if b = 4#8 then some .authorised
  else if b = 5#8 then some .unexplained
  else if b = 6#8 then some .notRequired
  else none

/-- R172, R188: a selection of the weekday table: a plan, or NONE (16). -/
def weekdaySelectionOf (b : Byte) : Option (Option (Fin 16)) :=
  if h : b.toNat < 16 then some (some ⟨b.toNat, h⟩) else if b = 16#8 then some none else none

/-- R172, R188: a selection of an exception: a plan, NONE (16) or DEFAULT (17). -/
def selectionOf (b : Byte) : Option Selection :=
  if h : b.toNat < 16 then some (.plan ⟨b.toNat, h⟩)
  else if b = 16#8 then some .none
  else if b = 17#8 then some .byWeekday
  else none

/-! ### Reply fields (R187, R188) -/

/-- One byte. -/
def u8 (n : Nat) : Bytes := [BitVec.ofNat 8 n]

/-- Two bytes, the high one first. -/
def u16 (n : Nat) : Bytes := [BitVec.ofNat 8 (n / 256), BitVec.ofNat 8 n]

/-- Three bytes, the highest first. -/
def u24 (n : Nat) : Bytes := [BitVec.ofNat 8 (n / 65536), BitVec.ofNat 8 (n / 256), BitVec.ofNat 8 n]

/-- Four bytes, the highest first. -/
def u32 (n : Nat) : Bytes :=
  [BitVec.ofNat 8 (n / 16777216), BitVec.ofNat 8 (n / 65536), BitVec.ofNat 8 (n / 256), BitVec.ofNat 8 n]

/-- R188: a yes/no or on/off value, 0 or 1. A flag that is set or clear (USED and CONTRADICTED of R139, the held second of
R25) is coded the same way, set 1 and clear 0; for the two of R139 R188 leaves it open (DESIGN CHOICE, log 6). -/
def encFlag (b : Bool) : Bytes := [if b then 1#8 else 0#8]

/-- A number below 100 as a BCD byte. -/
def toBcd (n : Nat) : Byte := BitVec.ofNat 8 (n / 10 * 16 + n % 10)

/-- A seconds-of-day value as a time of day. -/
def encTime (t : Nat) : Bytes := [toBcd (t / 3600), toBcd (t / 60 % 60), toBcd (t % 60)]

/-- A day number as a date. -/
def encDate (n : Nat) : Bytes := [toBcd (yearOf n), toBcd (monthOf n), toBcd (dayOfMonth n)]

/-- A date and time together. -/
def encStamp (s : Stamp) : Bytes := encDate s.date ++ encTime s.seconds

/-- A field that may be absent: a presence byte, then its own bytes. -/
def encOption {α : Type} (enc : α → Bytes) : Option α → Bytes
  | none => [0#8]
  | some a => 1#8 :: enc a

/-- The items of a list, one after another. -/
def encAll {α : Type} (enc : α → Bytes) : List α → Bytes
  | [] => []
  | a :: l => enc a ++ encAll enc l

/-- A list, preceded by its number of items. -/
def encList {α : Type} (enc : α → Bytes) (l : List α) : Bytes := u8 l.length ++ encAll enc l

/-- A session by its number. -/
def encSession : Session → Bytes
  | .s1 => [1#8]
  | .s2 => [2#8]

/-- R188: a reason. -/
def encReason : Reason → Bytes
  | .unwell => [0#8]
  | .appointment => [1#8]
  | .family => [2#8]
  | .travelDelay => [3#8]
  | .excursion => [4#8]
  | .otherAuthorised => [5#8]

/-- R9: a mark value. -/
def encMarkValue : MarkValue → Bytes
  | .none => [0#8]
  | .present => [1#8]
  | .late => [2#8]
  | .lateClosed => [3#8]
  | .authorised => [4#8]
  | .unexplained => [5#8]
  | .notRequired => [6#8]

/-- R9: a mark source. -/
def encMarkSource : MarkSource → Bytes
  | .none => [0#8]
  | .tap => [1#8]
  | .teacher => [2#8]
  | .office => [3#8]
  | .sweep => [4#8]
  | .report => [5#8]

/-- R9: a mark record. -/
def encMark (m : Mark) : Bytes :=
  encMarkValue m.value ++ encMarkSource m.source ++ u8 m.minutes ++ u8 m.charge ++ encFlag m.counted ++
    encFlag m.explained ++ encOption encReason m.reason ++ encFlag m.delivered

/-- R1: a pupil record with its marks and tallies. -/
def encPupil (p : Pupil) : Bytes :=
  u32 p.card ++ u24 p.number ++ u8 p.track.val ++ encFlag p.contact ++ encMark p.mark1 ++ encMark p.mark2 ++
    u8 p.lateCount ++ u16 p.lateMinutes

/-- R40: an entry kind. -/
def encEntryKind : EntryKind → Bytes
  | .plain => [0#8]
  | .sessionOpen _ => [1#8]
  | .registerClose _ => [2#8]
  | .dayClose => [3#8]

/-- R40: the session of an entry kind. -/
def EntryKind.session : EntryKind → Option Session
  | .sessionOpen k => some k
  | .registerClose k => some k
  | _ => none

/-- R40: a plan entry. -/
def encPlanEntry (e : PlanEntry) : Bytes :=
  encTime e.time ++ encEntryKind e.kind ++ encOption encSession e.kind.session ++ [e.zones] ++ u8 e.pattern.val

/-- R100: the code of a verdict. -/
def VerdictCode.code : VerdictCode → Byte
  | .onTime => 1#8
  | .late => 2#8
  | .lateClosed => 3#8
  | .lateExplained => 4#8
  | .repeated => 5#8
  | .returned => 6#8
  | .signedOut => 7#8
  | .alreadyOut => 8#8
  | .offsiteFull => 9#8
  | .notExpected => 10#8
  | .outsideDay => 11#8
  | .unknownCard => 12#8

/-- R100: a verdict. -/
def encVerdict (v : Verdict) : Bytes := [v.code.code] ++ u8 v.minutes ++ u24 v.number

/-! ### Reply payloads (1.8, R187) -/

/-- Status OK and the fields of the reply. -/
def okReply (fields : Bytes) : Bytes := 0#8 :: fields

/-- Status CLAMPED and the fields of the reply. -/
def clampedReply (fields : Bytes) : Bytes := 1#8 :: fields

/-- Status BUSY. -/
def busyReply : Bytes := [2#8]

/-- Status BAD_FIELD and the index of the first bad field. -/
def badField (index : Nat) : Bytes := [3#8, BitVec.ofNat 8 index]

/-- Status NO_SUCH. -/
def noSuch : Bytes := [4#8]

/-- Status FULL. -/
def fullReply : Bytes := [5#8]

/-- Status STATE. -/
def stateReply : Bytes := [6#8]

end Sys2Proof.Machine
end

