-- ==== Sys2Proof/Machine/Flags.lean ====
section
/-! DEFINITION. The flags of the block: the event pending set and ATTN (R190), and the output pins that follow from
the state (1.6). -/

namespace Sys2Proof.Machine

/-- R190: the event classes that are raised and wait for EVENTS_CLEAR. -/
inductive EventClass where
  | sweepDone
  | dayRolled
  | terminal
  | ring
  | loss
  | start
  deriving DecidableEq, Repr

/-- R190: the bit of a class in an event set. -/
def EventClass.bit : EventClass → BitVec 8
  | .sweepDone => 0x02#8
  | .dayRolled => 0x04#8
  | .terminal => 0x08#8
  | .ring => 0x10#8
  | .loss => 0x20#8
  | .start => 0x40#8

/-- R191: the classes that EVENTS_CLEAR may remove. -/
def clearable : BitVec 8 := 0x7E#8

/-- R182, R183: the blocks run: MAINS_OK is high and RESET_N is high. -/
def State.blocksRun (s : State) : Bool := s.power.mains && !s.power.resetLow

/-- R195: the link runs: it is stopped too between a PART_RESET reply and its start. -/
def State.linkUp (s : State) : Bool := s.blocksRun && !s.link.startRequested

/-- R158: a notice is READY. -/
def Notice.isReady (n : Notice) : Bool :=
  match n.state with
  | .ready => true
  | _ => false

/-- R158: the condition of NOTICE_READY. -/
def State.noticeReady (s : State) : Bool := s.notices.list.any Notice.isReady && !s.notices.hold

/-- R190: the event pending set. -/
def State.pendingSet (s : State) : BitVec 8 :=
  s.link.raised ||| (if s.noticeReady then 0x01#8 else 0#8) ||| (if s.clock.isSet then 0#8 else 0x80#8)

/-- R190, R195: ATTN is driven low. -/
def State.attnLow (s : State) : Bool := s.linkUp && !(s.pendingSet &&& ~~~s.link.mask == 0#8)

/-- R74: zone `z` is in a zone set. -/
def hasZone (zones : BitVec 8) (z : Fin 8) : Bool := zones.getLsbD z.val

/-- R74: the PLAYING job that owns zone `z`. -/
def RingUnit.owner (r : RingUnit) (z : Fin 8) : Option Job :=
  r.jobs.find? fun j => j.play.isSome && hasZone j.zones z

/-- R75: a job holds the chime line. -/
def Job.holds (j : Job) : Bool :=
  match j.play with
  | some p => p.holdsChime
  | none => false

/-- R75: the holder of the chime line. -/
def RingUnit.holder (r : RingUnit) : Option Job := r.jobs.find? Job.holds

/-- R69, R74: a job is in the on period of a step. -/
def Job.sounding (j : Job) : Bool :=
  match j.play with
  | some p => p.sounding
  | none => false

/-- R69: the tone of the step a job is playing; 0 while it waits. -/
def Job.tone (j : Job) : Nat :=
  match j.play with
  | some p => ((j.steps[p.step]?).map PatternStep.tone).getD 0
  | none => 0

/-- R74: RELAYn is high. -/
def RingUnit.relay (r : RingUnit) (z : Fin 8) : Bool :=
  match r.owner z with
  | some j => j.sounding
  | none => false

/-- R69, R75: the tone sounding on CHIME, none when the output is low. -/
def RingUnit.chime (r : RingUnit) : Option Nat :=
  match r.holder with
  | some j => if j.sounding && !j.degraded && j.tone ≠ 0 then some j.tone else none
  | none => none

/-- R68: the pitch of a tone, in hertz. -/
def pitchHz : Nat → Nat
  | 1 => 500
  | 2 => 630
  | 3 => 750
  | 4 => 880
  | 5 => 1000
  | 6 => 1250
  | 7 => 1500
  | 8 => 2000
  | _ => 0

/-- R82: DDIR is high, while a poll is being sent. -/
def Desk.ddir (d : Desk) : Bool :=
  match d.line with
  | .exchange e => e.phase = .sending
  | _ => false

/-! ### Characters and bytes on the two lines (R82, R184) -/

/-- R82, R184: the level of a stop bit, at which an idle line stands: high, as R184 has TXD idle (on the desk line
PRESUMED, log 9). -/
def stopLevel : Bool := true

/-- R82, R184: the level of a start bit. -/
def startLevel : Bool := !stopLevel

/-- R82, R184: eight data bits, least significant bit first. -/
def dataBits (b : Byte) : List Bool := (List.range 8).map b.getLsbD

/-- R82: the 11 bits of a character: start bit, data bits, address mark, stop bit. -/
def LineChar.bits (c : LineChar) : List Bool := startLevel :: (dataBits c.value ++ [c.mark, stopLevel])

/-- R82: the value that data bits spell, least significant bit first. -/
def ofDataBits : List Bool → Nat
  | [] => 0
  | b :: l => b.toNat + 2 * ofDataBits l

/-- R82: the character that the 11 bits received after the line left its idle level spell; none is a framing fault, a
stop bit that is not at the stop level. -/
def LineChar.ofBits (l : List Bool) : Option LineChar :=
  if l[10]? = some stopLevel then
    some { mark := l[9]? = some true, value := BitVec.ofNat 8 (ofDataBits ((l.drop 1).take 8)) }
  else none

/-- R82: the characters on DTX, back to back while a poll is being sent; none while DTX idles at the stop level. -/
def Desk.dtx (d : Desk) : Option (List LineChar) :=
  match d.line with
  | .exchange e => if e.phase = .sending then some e.frame else none
  | _ => none

/-- R82: the levels of DTX, bit by bit, over the sending of a poll; none while DTX idles at the stop level. -/
def Desk.dtxBits (d : Desk) : Option (List Bool) := d.dtx.map fun l => l.flatMap LineChar.bits

/-- R184: the ten bits of a byte on the host link. -/
def linkBits (b : Byte) : List Bool := startLevel :: (dataBits b ++ [stopLevel])

end Sys2Proof.Machine
end

