-- ==== Sys2Proof/Machine/Ops.lean ====
section
/-! DEFINITION. The named operations every family shares: keyed lists, saturating counters, updates of the state, the
roll and the running plans as other blocks read them, the taking of a request from the link, and the gate of an event. -/

namespace Sys2Proof.Machine

/-- What a command answers. -/
abbrev Out := Host.Outcome State Fault Refusal

/-! ### Keyed lists: the keys rise strictly, so equal maps are equal lists -/

/-- The value at a key. -/
def keyGet {α : Type} (k : Nat) : List (Nat × α) → Option α
  | [] => none
  | (j, a) :: l => if j = k then some a else keyGet k l

/-- Write the value at a key, in its place. -/
def keyPut {α : Type} (k : Nat) (a : α) : List (Nat × α) → List (Nat × α)
  | [] => [(k, a)]
  | (j, b) :: l => if k < j then (k, a) :: (j, b) :: l else if j = k then (k, a) :: l else (j, b) :: keyPut k a l

/-- Remove a key. -/
def keyDrop {α : Type} (k : Nat) (l : List (Nat × α)) : List (Nat × α) := l.filter fun p => p.1 ≠ k

/-- The keys of a list rise strictly: its one canonical form. -/
def keysRise {α : Type} : List (Nat × α) → Bool
  | [] => true
  | [_] => true
  | (j, _) :: (k, b) :: l => j < k && keysRise ((k, b) :: l)

/-! ### Counters -/

/-- A counter of sixteen bits that saturates. -/
def bump (n : Nat) : Nat := if n < Config.counterTop then n + 1 else n

/-- A number of sixteen bits that wraps from 65,535 to 0. -/
def wrapNext (n : Nat) : Nat := if n < Config.counterTop then n + 1 else 0

/-- Add to a quantity that stays at its limit. -/
def addUpTo (limit n d : Nat) : Nat := min limit (n + d)

/-! ### Updates of the state -/

/-- The state with `power` replaced. -/
def State.withPower (s : State) (v : Power) : State := { s with power := v }

/-- The state with `link` replaced. -/
def State.withLink (s : State) (v : Link) : State := { s with link := v }

/-- The state with `params` replaced. -/
def State.withParams (s : State) (v : Params) : State := { s with params := v }

/-- The state with `clock` replaced. -/
def State.withClock (s : State) (v : Clock) : State := { s with clock := v }

/-- The state with `countUps` replaced. -/
def State.withCountUps (s : State) (v : CountUps) : State := { s with countUps := v }

/-- The state with `roll` replaced. -/
def State.withRoll (s : State) (v : Roll) : State := { s with roll := v }

/-- The state with `cards` replaced. -/
def State.withCards (s : State) (v : CardIndex) : State := { s with cards := v }

/-- The state with `plans` replaced. -/
def State.withPlans (s : State) (v : Vector (List PlanEntry) 16) : State := { s with plans := v }

/-- The state with `running` replaced. -/
def State.withRunning (s : State) (v : Vector RunningPlan 6) : State := { s with running := v }

/-- The state with `ring` replaced. -/
def State.withRing (s : State) (v : RingUnit) : State := { s with ring := v }

/-- The state with `desk` replaced. -/
def State.withDesk (s : State) (v : Desk) : State := { s with desk := v }

/-- The state with `arrivals` replaced. -/
def State.withArrivals (s : State) (v : Arrivals) : State := { s with arrivals := v }

/-- The state with `sweep` replaced. -/
def State.withSweep (s : State) (v : Sweep) : State := { s with sweep := v }

/-- The state with `book` replaced. -/
def State.withBook (s : State) (v : List BookEntry) : State := { s with book := v }

/-- The state with `notices` replaced. -/
def State.withNotices (s : State) (v : NoticeQueue) : State := { s with notices := v }

/-- The state with `days` replaced. -/
def State.withDays (s : State) (v : Days) : State := { s with days := v }

/-- R190: a class becomes pending. -/
def State.raise (s : State) (c : EventClass) : State :=
  s.withLink { s.link with raised := s.link.raised ||| c.bit }

/-- R25: the controller's now. -/
def State.now (s : State) : Stamp := { date := s.clock.date, seconds := s.clock.seconds }

/-- R175: a rollover is in flight. -/
def State.rolling (s : State) : Bool := s.days.rollover.isSome

/-! ### The roll as the blocks reach it (R1) -/

/-- The record in a roll slot. -/
def State.pupilAt (s : State) (i : Nat) : Option Pupil := keyGet i s.roll

/-- Write the record of a slot; the card index is not touched. -/
def State.putPupil (s : State) (i : Nat) (p : Pupil) : State := s.withRoll (keyPut i p s.roll)

/-- R1: the roll index of a card id. -/
def State.slotOfCard (s : State) (card : Nat) : Option Nat := keyGet card s.cards

/-- The mark of a session. -/
def Pupil.mark (p : Pupil) : Session → Mark
  | .s1 => p.mark1
  | .s2 => p.mark2

/-- Replace the mark of a session. -/
def Pupil.withMark (p : Pupil) (k : Session) (m : Mark) : Pupil :=
  match k with
  | .s1 => { p with mark1 := m }
  | .s2 => { p with mark2 := m }

/-- R4: a cleared mark record of a value. -/
def clearedMark (v : MarkValue) : Mark :=
  { value := v, source := .none, minutes := 0, charge := 0, counted := false, explained := false, reason := none,
    delivered := false }

/-- R4, R18: the cleared mark of a session that the track has, or has not. -/
def freshMark (has : Bool) : Mark := clearedMark (if has then .none else .notRequired)

/-- R11: the value shows an arrival. -/
def MarkValue.arrival : MarkValue → Bool
  | .present => true
  | .late => true
  | .lateClosed => true
  | _ => false

/-- R9: the value carries minutes late. -/
def MarkValue.isLate : MarkValue → Bool
  | .late => true
  | .lateClosed => true
  | _ => false

/-! ### Running plans as the blocks read them (R45, R46) -/

/-- R45: the effective time of a running entry. -/
def RunningEntry.effective (e : RunningEntry) : Int := (e.entry.time : Int) + e.delay

/-- R45: the effective time of a running entry as seconds of day. -/
def RunningEntry.effectiveSeconds (e : RunningEntry) : Nat := e.effective.toNat

/-- R46: the index of the first PENDING entry, none at the end. -/
def RunningPlan.cursor (r : RunningPlan) : Option Nat := r.entries.findIdx? fun e => e.state = .pending

/-- R45: the inserted count. -/
def RunningPlan.insertedCount (r : RunningPlan) : Nat := (r.entries.filter fun e => e.inserted).length

/-- R45: the track has a plan today. -/
def RunningPlan.hasPlan (r : RunningPlan) : Bool := !r.entries.isEmpty

/-- R45: the SESSION_OPEN entry of a session. -/
def RunningPlan.openEntry (r : RunningPlan) (k : Session) : Option RunningEntry :=
  r.entries.find? fun e => e.entry.kind = .sessionOpen k

/-- R45: the REGISTER_CLOSE entry of a session. -/
def RunningPlan.closeEntry (r : RunningPlan) (k : Session) : Option RunningEntry :=
  r.entries.find? fun e => e.entry.kind = .registerClose k

/-- R45: the track has a session today. -/
def RunningPlan.hasSession (r : RunningPlan) (k : Session) : Bool := (r.openEntry k).isSome

/-- R47: the state of a session, none where the track lacks it. -/
def RunningPlan.session (r : RunningPlan) : Session → Option SessionState
  | .s1 => r.session1
  | .s2 => r.session2

/-- R47: give a session a state. -/
def RunningPlan.withSession (r : RunningPlan) (k : Session) (v : SessionState) : RunningPlan :=
  match k with
  | .s1 => { r with session1 := some v }
  | .s2 => { r with session2 := some v }

/-- The running plan of a track. -/
def State.plan (s : State) (t : Track) : RunningPlan := s.running[t]

/-- Replace the running plan of a track. -/
def State.withPlan (s : State) (t : Track) (r : RunningPlan) : State := s.withRunning (s.running.set t r)

/-- The six tracks in order. -/
def allTracks : List Track := [0, 1, 2, 3, 4, 5]

/-- The four terminals in address order. -/
def allTerminals : List (Fin 4) := [0, 1, 2, 3]

/-- The eight zones in order. -/
def allZones : List (Fin 8) := [0, 1, 2, 3, 4, 5, 6, 7]

/-! ### The rollover record (R175, R176) -/

/-- Replace the rollover record. -/
def State.setRollover (s : State) (r : Option Rollover) : State := s.withDays { s.days with rollover := r }

/-- R176: no sweep is queued or in flight. -/
def State.sweepsDone (s : State) : Bool := s.sweep.queue.isEmpty && s.sweep.flight.isNone

/-- R176: a rollover at stage 1 is judged: with no sweep queued or in flight stage 1 ends and stage 2 begins at once (log
26). The Day Controller judges as a rollover is created, as a sweep completes, and at a start. -/
def State.judgeStage1 (s : State) : State :=
  match s.days.rollover with
  | some r => if r.stage = 1 && s.sweepsDone then s.setRollover (some { r with stage := 2 }) else s
  | none => s

/-! ### Requests (R184, R186) and events -/

/-- How a block answers a request: the state after it, and the payload of the reply. -/
abbrev Served := State × Bytes

/-- A reply that changes nothing. -/
def answer (s : State) (payload : Bytes) : Served := (s, payload)

/-- R175: a request that is answered BUSY while a rollover is in flight. -/
def unlessRolling (s : State) (f : Served) : Served := if s.rolling then (s, busyReply) else f

/-- R186: the frame that ends now is an overlapped one. A frame-ending command that finds the receiver in HUNT stands
for the whole frame, its sync byte included (DESIGN CHOICE, log 7). -/
def Link.overlaps (l : Link) : Bool :=
  match l.receiver with
  | .inFrame o => o
  | .hunt => l.inHand.isSome

/-- R186: an overlapped frame ends: it is counted, and nothing it asked for is done. -/
def State.countOverlapped (s : State) : State :=
  s.withLink { s.link with receiver := .hunt, overlapped := bump s.link.overlapped }

/-- R186: the receiver goes back to HUNT as an ordinary frame ends. -/
def State.frameEnds (s : State) : State := s.withLink { s.link with receiver := .hunt }

/-- R185, R187: what the Link Interface sends of a block's answer: no reply payload exceeds 1,040 bytes. Only OFFSITE_READ
with more than 115 entries answers more (R116); that its first 1,040 bytes are then sent is a DESIGN CHOICE (log 8). -/
def sentPayload (answer : Bytes) : Bytes := answer.take Config.payloadLimit

/-- R186, R187: the reply with a block's answer is in hand from now on. -/
def State.reply (s : State) (r : Reply) : State :=
  s.withLink { s.link with inHand := some { r with payload := sentPayload r.payload } }

/-- R184, R186, R195: a frame ends. A stopped link discards it, an overlapped one is counted, and an ordinary one is
answered by `serve` with a reply of the kind given. -/
def takeFrame (kind : Byte) (thenStart : Bool) (serve : State → Served) (s : State) : State :=
  if s.linkUp then
    if s.link.overlaps then s.countOverlapped
    else (serve s.frameEnds).1.reply { kind := kind, payload := (serve s.frameEnds).2, thenStart := thenStart }
  else s

/-- R185, R186: a request is taken and answered with its code + 0x80. -/
def request (code : Byte) (serve : State → Served) (s : State) : Out := .next (takeFrame (code + 0x80#8) false serve s)

/-- An event of a block: it acts only while the blocks run (R182, R183) and the event can happen; otherwise nothing
comes about (DESIGN CHOICE, log 4). -/
def event (due : State → Bool) (act : State → State) (s : State) : Out :=
  .next (if s.blocksRun && due s then act s else s)

end Sys2Proof.Machine
end

