-- ==== Sys2Proof/Machine/NoticeOps.lean ====
section
/-! DEFINITION. What the Notice Queue does with an offer, a withdrawal, a removal request, a failure and a delivery
(R150 to R152, R154, R155, R161 to R167). -/

namespace Sys2Proof.Machine

/-- R151: the three classes of notices. -/
inductive NoticeClass where
  | classA
  | classB
  | classC
  deriving DecidableEq, Repr

/-- R151: the class of a kind. -/
def NoticeKind.cls : NoticeKind → NoticeClass
  | .absence _ => .classA
  | .arrived _ => .classA
  | .late _ _ _ => .classB
  | .pattern _ => .classC

/-- R151: the class order, highest first. -/
def classOrder : Fin 6 → List NoticeClass
  | 0 => [.classA, .classB, .classC]
  | 1 => [.classA, .classC, .classB]
  | 2 => [.classB, .classA, .classC]
  | 3 => [.classB, .classC, .classA]
  | 4 => [.classC, .classA, .classB]
  | 5 => [.classC, .classB, .classA]

/-- The place of a kind in the list of R150. -/
def NoticeKind.index : NoticeKind → Nat
  | .absence _ => 0
  | .arrived _ => 1
  | .late _ _ _ => 2
  | .pattern _ => 3

/-- R150: the session a kind concerns. -/
def NoticeKind.session : NoticeKind → Option Session
  | .absence k => some k
  | .arrived k => some k
  | .late k _ _ => some k
  | .pattern _ => none

/-- R152: the kinds of a class in their rank. -/
def NoticeClass.kinds : NoticeClass → List Nat
  | .classA => [1, 0]
  | .classB => [2]
  | .classC => [3]

/-- A notice is HANDED. -/
def Notice.isHanded (n : Notice) : Bool :=
  match n.state with
  | .handed _ _ _ => true
  | _ => false

/-- A notice is HELD. -/
def Notice.isHeld (n : Notice) : Bool :=
  match n.state with
  | .held _ => true
  | _ => false

/-- R150: the supersede mode of a notice. -/
def Notice.mode (n : Notice) : Supersede :=
  match n.state with
  | .handed _ _ m => m
  | _ => .none

/-! ### The day's counters (R167) -/

/-- R167: the seven day counters by name. -/
inductive DayCount where
  | created
  | delivered
  | abandoned
  | withdrawn
  | expired
  | evicted
  | dropped
  deriving DecidableEq, Repr

/-- The value of a day counter. -/
def NoticeCounters.get (c : NoticeCounters) : DayCount → Nat
  | .created => c.created
  | .delivered => c.delivered
  | .abandoned => c.abandoned
  | .withdrawn => c.withdrawn
  | .expired => c.expired
  | .evicted => c.evicted
  | .dropped => c.dropped

/-- Give a day counter a value. -/
def NoticeCounters.put (c : NoticeCounters) (d : DayCount) (n : Nat) : NoticeCounters :=
  match d with
  | .created => { c with created := n }
  | .delivered => { c with delivered := n }
  | .abandoned => { c with abandoned := n }
  | .withdrawn => { c with withdrawn := n }
  | .expired => { c with expired := n }
  | .evicted => { c with evicted := n }
  | .dropped => { c with dropped := n }

/-- R167: a day counter rises by one. What it holds after it is raised at 65,535 is a free value (log 5). -/
def NoticeQueue.count (q : NoticeQueue) (d : DayCount) : NoticeQueue :=
  if q.counters.get d < Config.counterTop then { q with counters := q.counters.put d (q.counters.get d + 1) }
  else { q with counters := q.counters.put d (Config.freeNoticeCount q.drawn).toNat, drawn := q.drawn + 1 }

/-- R167: a day counter rises by one for each of several notices. -/
def NoticeQueue.countMany (q : NoticeQueue) (d : DayCount) : Nat → NoticeQueue
  | 0 => q
  | n + 1 => (q.countMany d n).count d

/-! ### Offers (R154, R155) -/

/-- R154: an offer; `release` is the release time of an ABSENCE offer, none where READY at once is asked for. -/
structure Offer where
  kind : NoticeKind
  pupil : Nat
  number : Nat
  date : Nat
  release : Option Nat
  deriving DecidableEq, Repr

/-- R150, R154: a notice has the kind, pupil, date and session of an offer. -/
def Notice.matchesOffer (n : Notice) (o : Offer) : Bool :=
  n.kind.index = o.kind.index && n.kind.session = o.kind.session && n.pupil = o.pupil && n.date = o.date

/-- R150: the free slot with the lowest number. -/
def NoticeQueue.freeSlot (q : NoticeQueue) : Option Nat :=
  (List.range Config.notices).find? fun n => !(q.list.any fun m => m.slot = n)

/-- R154: the state a created notice begins in. -/
def Offer.firstState (o : Offer) (now : Nat) : NoticeState :=
  match o.release with
  | some r => if now < r then .held r else .ready
  | none => .ready

/-- What the Notice Queue makes of an offer: the queue, whether LOSS is raised, and the notice created. -/
structure OfferResult where
  queue : NoticeQueue
  loss : Bool
  created : Option Notice
  deriving DecidableEq, Repr

/-- The notice an offer becomes in a slot. -/
def NoticeQueue.noticeOf (q : NoticeQueue) (now : Nat) (o : Offer) (slot : Nat) : Notice :=
  { slot := slot, creation := q.nextCreation, kind := o.kind, pupil := o.pupil, number := o.number, date := o.date,
    state := o.firstState now, attempts := 0 }

/-- R150, R154: an offer is created in the free slot with the lowest number. -/
def NoticeQueue.create (q : NoticeQueue) (now : Nat) (o : Offer) (loss : Bool) : OfferResult :=
  match q.freeSlot with
  | none => { queue := q, loss := loss, created := none }
  | some slot =>
    { queue := { q with list := q.list ++ [q.noticeOf now o slot],
                        nextCreation := wrapNext q.nextCreation }.count .created
      loss := loss
      created := some (q.noticeOf now o slot) }

/-- Take a notice out of the queue and count how it left. -/
def NoticeQueue.remove (q : NoticeQueue) (n : Notice) (d : DayCount) : NoticeQueue :=
  { q with list := q.list.filter fun m => m.slot ≠ n.slot }.count d

/-- R155: the lowest-ranked class among the notices that are not HANDED. -/
def NoticeQueue.lowestClass (q : NoticeQueue) : Option NoticeClass :=
  (classOrder q.order).reverse.find? fun c => q.list.any fun n => !n.isHanded && n.kind.cls = c

/-- R151: the first class ranks below the second. -/
def NoticeQueue.ranksBelow (q : NoticeQueue) (c d : NoticeClass) : Bool :=
  (classOrder q.order).idxOf d < (classOrder q.order).idxOf c

/-- R155: the newest notice of a class that is not HANDED. -/
def NoticeQueue.newest (q : NoticeQueue) (c : NoticeClass) : Option Notice :=
  q.list.reverse.find? fun n => !n.isHanded && n.kind.cls = c

/-- R155: the notice that a full queue gives up for an offer, none where the offer is dropped. -/
def NoticeQueue.victim (q : NoticeQueue) (o : Offer) : Option Notice :=
  match q.lowestClass with
  | some c => if q.ranksBelow c o.kind.cls then q.newest c else none
  | none => none

/-- R154, R155: an offer is taken. -/
def NoticeQueue.take (q : NoticeQueue) (now : Nat) (o : Offer) : OfferResult :=
  if q.list.any fun n => n.matchesOffer o then { queue := q, loss := false, created := none }
  else if q.list.length < Config.notices then q.create now o false
  else
    match q.victim o with
    | some n => (q.remove n .evicted).create now o true
    | none => { queue := q.count .dropped, loss := true, created := none }

/-- The state after an offer's result. -/
def State.taken (s : State) (r : OfferResult) : State :=
  if r.loss then (s.withNotices r.queue).raise .loss else s.withNotices r.queue

/-- An offer reaches the Notice Queue. -/
def State.offer (s : State) (o : Offer) : State := s.taken (s.notices.take s.clock.seconds o)

/-! ### Withdrawal and removal (R164, R166) -/

/-- R164: the supersede mode a withdrawal asks for. -/
def supersedeBy (arrival : Bool) : Supersede := if arrival then .withArrival else .silent

/-- Give a HANDED notice a supersede mode; a notice in another state is not changed. -/
def Notice.supersede (n : Notice) (m : Supersede) : Notice :=
  match n.state with
  | .handed t k _ => { n with state := .handed t k m }
  | _ => n

/-- R164: the notice is the ABSENCE notice of a pupil, date and session. -/
def Notice.isAbsenceOf (n : Notice) (pupil date : Nat) (k : Session) : Bool :=
  n.kind = .absence k && n.pupil = pupil && n.date = date

/-- R164: a withdrawal request. -/
def NoticeQueue.withdraw (q : NoticeQueue) (pupil date : Nat) (k : Session) (arrival : Bool) : NoticeQueue :=
  match q.list.find? fun n => n.isAbsenceOf pupil date k with
  | none => q
  | some n =>
    if n.isHanded then
      { q with list := q.list.map fun m =>
          if m.isAbsenceOf pupil date k then m.supersede (supersedeBy arrival) else m }
    else q.remove n .withdrawn

/-- R164: the Roll Store asks for a withdrawal, dated today. -/
def State.withdraw (s : State) (pupil : Nat) (k : Session) (arrival : Bool) : State :=
  s.withNotices (s.notices.withdraw pupil s.days.today k arrival)

/-- R166: the notices that a removal request withdraws. -/
def NoticeQueue.removable (q : NoticeQueue) (pupil : Nat) : List Notice :=
  q.list.filter fun n => n.pupil = pupil && !n.isHanded

/-- R166: a removal request. -/
def NoticeQueue.removePupil (q : NoticeQueue) (pupil : Nat) : NoticeQueue :=
  { q with list := (q.list.filter fun n : Notice => !(n.pupil = pupil && !n.isHanded)).map fun n : Notice =>
      if n.pupil = pupil then n.supersede .silent else n }.countMany .withdrawn (q.removable pupil).length

/-! ### Failure and delivery (R161, R162, R165) -/

/-- R162: a notice back at READY after a failed delivery. -/
def Notice.retry (n : Notice) : Notice := { n with state := .ready, attempts := n.attempts + 1 }

/-- Replace a notice where it stands. -/
def NoticeQueue.replace (q : NoticeQueue) (n : Notice) : NoticeQueue :=
  { q with list := q.list.map fun m => if m.slot = n.slot then n else m }

/-- R162, R163, R165: a HANDED notice fails, by an outcome or by its timeout. -/
def NoticeQueue.fail (q : NoticeQueue) (limit : Nat) (n : Notice) : NoticeQueue :=
  if n.mode ≠ .none then q.remove n .withdrawn
  else if limit ≤ n.attempts + 1 then q.remove n .abandoned
  else q.replace n.retry

/-- R10: the Notice Queue asks for the notice delivered flag of a mark. -/
def State.setDelivered (s : State) (pupil date : Nat) (k : Session) : State :=
  match s.pupilAt pupil with
  | some p => if date = s.days.today then s.putPupil pupil (p.withMark k { p.mark k with delivered := true }) else s
  | none => s

/-- R165: the ARRIVED offer that follows a WITH_ARRIVAL delivery, none where the record's contact is no. -/
def State.arrivalFollows (s : State) (n : Notice) (k : Session) : Option Offer :=
  match s.pupilAt n.pupil with
  | some p =>
    if p.contact then
      some { kind := .arrived k, pupil := n.pupil, number := p.number, date := n.date, release := none }
    else none
  | none => none

/-- R161, R165: a notice is reported delivered; the second part is the ARRIVED notice the delivery created. -/
def State.deliver (s : State) (n : Notice) : State × Option Notice :=
  match n.kind, n.mode with
  | .absence k, .none => ((s.withNotices (s.notices.remove n .delivered)).setDelivered n.pupil n.date k, none)
  | .absence k, .withArrival =>
    match s.arrivalFollows n k with
    | some o =>
      let t := (s.withNotices (s.notices.remove n .delivered)).setDelivered n.pupil n.date k
      (t.taken (t.notices.take t.clock.seconds o), (t.notices.take t.clock.seconds o).created)
    | none => ((s.withNotices (s.notices.remove n .delivered)).setDelivered n.pupil n.date k, none)
  | _, _ => (s.withNotices (s.notices.remove n .delivered), none)

end Sys2Proof.Machine
end

