-- ==== Sys2Proof/Machine/RollOps.lean ====
section
/-! DEFINITION. What the Roll Store does with a change of a mark from any source, with tallies, and with records
(R3 to R6, R11, R12, R16 to R20, R22 to R24). -/

namespace Sys2Proof.Machine

/-! ### Tallies (R19, R20) -/

/-- R20: the charge of a mark is reversed, floored at 0. -/
def Pupil.reverse (p : Pupil) (m : Mark) : Pupil :=
  { p with lateCount := p.lateCount - (if m.counted then 1 else 0), lateMinutes := p.lateMinutes - m.charge }

/-- R19: a charge would raise the late count. -/
def Pupil.countRises (p : Pupil) : Bool := p.lateCount < 255

/-- R19: by how much a charge of these minutes raises the late minutes. -/
def Pupil.minutesRise (p : Pupil) (minutes : Nat) : Nat := min minutes (65535 - p.lateMinutes)

/-- R19: the tallies after a charge. -/
def Pupil.charge (p : Pupil) (minutes : Nat) : Pupil :=
  { p with lateCount := addUpTo 255 p.lateCount 1, lateMinutes := addUpTo 65535 p.lateMinutes minutes }

/-! ### Replacement of a mark (R11) -/

/-- R11: what a change writes: the value and what belongs to it, and whether the new mark is charged. -/
structure MarkWrite where
  value : MarkValue
  source : MarkSource
  minutes : Nat
  reason : Option Reason
  explained : Bool
  charged : Bool
  deriving DecidableEq, Repr

/-- R11: the tallies after the first and third steps. -/
def Pupil.tallied (p : Pupil) (k : Session) (w : MarkWrite) : Pupil :=
  if w.charged then (p.reverse (p.mark k)).charge w.minutes else p.reverse (p.mark k)

/-- R11, R19: the mark that a change writes over the session's mark; the notice delivered flag is carried over. -/
def Pupil.written (p : Pupil) (k : Session) (w : MarkWrite) : Mark :=
  { value := w.value, source := w.source, minutes := w.minutes
    charge := if w.charged then (p.reverse (p.mark k)).minutesRise w.minutes else 0
    counted := w.charged && (p.reverse (p.mark k)).countRises
    explained := w.explained, reason := w.reason, delivered := (p.mark k).delivered }

/-- R22: the PATTERN offer of a charge that left this late count. -/
def State.patternOffer (s : State) (i : Nat) (p : Pupil) : State :=
  if s.params.patternEvery ≠ 0 && p.lateCount % s.params.patternEvery = 0 && p.contact then
    s.offer { kind := .pattern p.lateCount, pupil := i, number := p.number, date := s.days.today, release := none }
  else s

/-- R23: the ARRIVED offer of a mark that left UNEXPLAINED by arrival with its notice delivered flag set. -/
def State.arrivedOffer (s : State) (i : Nat) (p : Pupil) (k : Session) : State :=
  if p.contact then
    s.offer { kind := .arrived k, pupil := i, number := p.number, date := s.days.today, release := none }
  else s

/-- R11: the change leaves UNEXPLAINED. -/
def Mark.leavesUnexplained (m : Mark) (v : MarkValue) : Bool := m.value = .unexplained && v ≠ .unexplained

/-- R11: a mark is replaced, in the five steps of the rule. -/
def State.replaceMark (s : State) (i : Nat) (p : Pupil) (k : Session) (w : MarkWrite) : State :=
  let new := (p.tallied k w).withMark k (p.written k w)
  let stored := s.putPupil i new
  let offered := if (p.written k w).counted then stored.patternOffer i new else stored
  let withdrawn :=
    if (p.mark k).leavesUnexplained w.value then offered.withdraw i k w.value.arrival else offered
  if (p.mark k).leavesUnexplained w.value && w.value.arrival && (p.mark k).delivered then
    withdrawn.arrivedOffer i new k
  else withdrawn

/-! ### The sources TAP, SWEEP and REPORT -/

/-- R12: the Roll Store's answers to the Arrival Processor. -/
inductive TapAnswer where
  | applied
  | repeated
  | notExpected
  | outsideDay
  | unchanged
  deriving DecidableEq, Repr

/-- R12: the answer to a TAP change of value. -/
def State.tapAnswer (s : State) (p : Pupil) (k : Session) : TapAnswer :=
  if (p.mark k).value = .notRequired then .notExpected
  else if (s.plan p.track).day = .ended then .outsideDay
  else if (p.mark k).value.arrival then .repeated
  else .applied

/-- R12, R19: what a TAP change writes. -/
def tapWrite (v : MarkValue) (minutes : Nat) (explained : Bool) : MarkWrite :=
  { value := v, source := .tap, minutes := minutes, reason := none, explained := explained,
    charged := v.isLate && !explained }

/-- R12: a TAP change of value. -/
def State.tapChange (s : State) (i : Nat) (p : Pupil) (k : Session) (v : MarkValue) (minutes : Nat)
    (explained : Bool) : State :=
  if s.tapAnswer p k = .applied then s.replaceMark i p k (tapWrite v minutes explained) else s

/-- R12: the answer to a return. -/
def State.returnAnswer (s : State) (p : Pupil) (k : Session) : TapAnswer :=
  if (p.mark k).value = .notRequired then .notExpected
  else if (s.plan p.track).day = .ended then .outsideDay
  else if (p.mark k).value = .none then .applied
  else .unchanged

/-- R12: a return from the off-site list. -/
def State.tapReturn (s : State) (i : Nat) (p : Pupil) (k : Session) : State :=
  if s.returnAnswer p k = .applied then s.replaceMark i p k (tapWrite .present 0 false) else s

/-- R16: what a SWEEP change writes: AUTHORISED with a reason, or UNEXPLAINED. -/
def sweepWrite (reason : Option Reason) : MarkWrite :=
  { value := if reason.isSome then .authorised else .unexplained, source := .sweep, minutes := 0, reason := reason,
    explained := false, charged := false }

/-- R16: a SWEEP change is answered APPLIED. -/
def Pupil.sweepApplies (p : Pupil) (k : Session) : Bool := (p.mark k).value = .none

/-- R16: a SWEEP change. -/
def State.sweepChange (s : State) (i : Nat) (p : Pupil) (k : Session) (reason : Option Reason) : State :=
  if p.sweepApplies k then s.replaceMark i p k (sweepWrite reason) else s

/-- R17: the Roll Store's answers to the Reason Book, in the manual's order. -/
inductive ReportAnswer where
  | converted
  | contradicted
  | unchanged
  deriving DecidableEq, Repr

/-- R17: the answer to a REPORT change; an empty slot has no mark to change. -/
def State.reportAnswer (s : State) (i : Nat) (k : Session) : ReportAnswer :=
  match s.pupilAt i with
  | some p =>
    if (p.mark k).value = .unexplained then .converted
    else if (p.mark k).value.arrival then .contradicted
    else .unchanged
  | none => .unchanged

/-- R17: what a REPORT change writes. -/
def reportWrite (reason : Reason) : MarkWrite :=
  { value := .authorised, source := .report, minutes := 0, reason := some reason, explained := false, charged := false }

/-- R17: a REPORT change. -/
def State.reportChange (s : State) (i : Nat) (k : Session) (reason : Reason) : State :=
  match s.pupilAt i with
  | some p => if s.reportAnswer i k = .converted then s.replaceMark i p k (reportWrite reason) else s
  | none => s

/-! ### Records (R3 to R6) -/

/-- R3: a record that passed its checks. -/
structure RollRecord where
  card : Nat
  number : Nat
  track : Track
  contact : Bool
  deriving DecidableEq, Repr

/-- R3: the record of a frame for a slot, none where it is refused. -/
def State.checkRecord (s : State) (slot : Nat) (r : RollItem) : Option RollRecord :=
  match trackOf r.track, flagOf r.contact with
  | some t, some c =>
    if slot < Config.rollSlots && r.card ≠ 0#32 && 1 ≤ r.number.toNat && r.number.toNat ≤ 9999999 &&
        (s.slotOfCard r.card.toNat = none || s.slotOfCard r.card.toNat = some slot) then
      some { card := r.card.toNat, number := r.number.toNat, track := t, contact := c }
    else none
  | _, _ => none

/-- R6: the mark of a session after a change to a track that has, or has not, that session. -/
def Mark.aligned (m : Mark) (has : Bool) : Mark :=
  if has then (if m.value = .notRequired then clearedMark .none else m)
  else (if m.value = .notRequired then m else clearedMark .notRequired)

/-- R6, R20: the record of a pupil after one mark is brought into line with a new track. -/
def Pupil.alignMark (p : Pupil) (k : Session) (has : Bool) : Pupil :=
  if !has && (p.mark k).value ≠ .notRequired then (p.reverse (p.mark k)).withMark k ((p.mark k).aligned has)
  else p.withMark k ((p.mark k).aligned has)

/-- R6: bringing one mark into line withdraws the pupil's ABSENCE notice. -/
def Pupil.alignWithdraws (p : Pupil) (k : Session) (has : Bool) : Bool :=
  !has && (p.mark k).value = .unexplained

/-- R6: a withdrawal with arrival no, where the condition holds. -/
def State.withdrawIf (s : State) (c : Bool) (i : Nat) (k : Session) : State :=
  if c then s.withdraw i k false else s

/-- R6: a change of track is applied to the two marks, session by session. -/
def State.changeTrack (s : State) (i : Nat) (p : Pupil) (t : Track) : State :=
  let has1 := (s.plan t).hasSession .s1
  let has2 := (s.plan t).hasSession .s2
  let p1 := { p with track := t }.alignMark .s1 has1
  ((s.putPupil i (p1.alignMark .s2 has2)).withdrawIf (p.alignWithdraws .s1 has1) i .s1).withdrawIf
    (p.alignWithdraws .s2 has2) i .s2

/-- R4: the record of a pupil written to an empty slot. -/
def State.newPupil (s : State) (r : RollRecord) : Pupil :=
  { card := r.card, number := r.number, track := r.track, contact := r.contact
    mark1 := freshMark ((s.plan r.track).hasSession .s1)
    mark2 := freshMark ((s.plan r.track).hasSession .s2)
    lateCount := 0, lateMinutes := 0 }

/-- R5: the record of an occupied slot with card, number and contact replaced. -/
def Pupil.replaced (p : Pupil) (r : RollRecord) : Pupil :=
  { p with card := r.card, number := r.number, contact := r.contact }

/-- R1, R5: the card index with a slot's old card taken out and its new one entered. -/
def State.recard (s : State) (i old new : Nat) : State := s.withCards (keyPut new i (keyDrop old s.cards))

/-- R3 to R6: a checked record is written to its slot. -/
def State.writeRecord (s : State) (i : Nat) (r : RollRecord) : State :=
  match s.pupilAt i with
  | none => (s.withCards (keyPut r.card i s.cards)).putPupil i (s.newPupil r)
  | some p =>
    if p.track = r.track then (s.recard i p.card r.card).putPupil i (p.replaced r)
    else (s.recard i p.card r.card).changeTrack i (p.replaced r) r.track

/-- R3: the records of a frame are taken in order; the second part is the number of the first refused one. -/
def State.writeRecords (s : State) (slot n : Nat) : List RollItem → State × Option Nat
  | [] => (s, none)
  | r :: rest =>
    match s.checkRecord slot r with
    | none => (s, some n)
    | some c => (s.writeRecord slot c).writeRecords (slot + 1) (n + 1) rest

end Sys2Proof.Machine
end

