-- ==== Sys2Proof/Machine/Book.lean ====
section
/-! DEFINITION. The Reason Book: coverage, consultation, flags and order (R139 to R149), and the meanings of its
requests. -/

namespace Sys2Proof.Machine

/-- R140: a scope covers a session. -/
def Scope.covers : Scope → Session → Bool
  | .s1, .s1 => true
  | .s1, .s2 => false
  | .s2, .s1 => false
  | .s2, .s2 => true
  | .both, _ => true
  | .arrivingLate, _ => true

/-- R141: the entry of a pupil and date. -/
def State.bookEntry (s : State) (pupil date : Nat) : Option BookEntry :=
  s.book.find? fun e => e.pupil = pupil && e.date = date

/-- R108, R127: the entry for the pupil and today that covers a session. -/
def State.coveringEntry (s : State) (pupil : Nat) (k : Session) : Option BookEntry :=
  match s.bookEntry pupil s.days.today with
  | some e => if e.scope.covers k then some e else none
  | none => none

/-- R146: a reason explains a late arrival. -/
def Reason.explainsLateness : Reason → Bool
  | .appointment => true
  | .travelDelay => true
  | _ => false

/-- R146: flags are set on the entry of a pupil and date; a flag once set stays set. -/
def State.flagBook (s : State) (pupil date : Nat) (used contradicted : Bool) : State :=
  s.withBook (s.book.map fun e =>
    if e.pupil = pupil && e.date = date then
      { e with used := e.used || used, contradicted := e.contradicted || contradicted }
    else e)

/-- R142: an entry is placed after the entries of its own date and earlier ones. -/
def placeEntry (e : BookEntry) : List BookEntry → List BookEntry
  | [] => [e]
  | f :: l => if f.date ≤ e.date then f :: placeEntry e l else e :: f :: l

/-- R141: the last date of the horizon of a day. -/
def horizonEnd (today : Nat) : Nat := min Config.lastDay (today + Config.bookHorizon)

/-- R141: a date lies in the horizon of a day. -/
def inHorizon (today date : Nat) : Bool := today ≤ date && date ≤ horizonEnd today

/-! ### REPORT_ADD (R142, R143) -/

/-- R142: the report's fields 1 to 4, or the number of the first bad one. -/
def reportFields (today : Nat) (date : DateField) (scope reason origin : Byte) :
    Except Nat (Nat × Scope × Reason × ReportOrigin) :=
  if !dateOk date || !inHorizon today (dateDay date) then .error 1
  else
    match scopeOf scope, reasonOf reason, reportOriginOf origin with
    | none, _, _ => .error 2
    | some _, none, _ => .error 3
    | some _, some _, none => .error 4
    | some c, some r, some o => .ok (dateDay date, c, r, o)

/-- R142: an entry is stored: it replaces the entry of its key, or is new. -/
def State.storeEntry (s : State) (e : BookEntry) : State :=
  s.withBook (placeEntry e (s.book.filter fun f => !(f.pupil = e.pupil && f.date = e.date)))

/-- R143: the Roll Store's answer for a covered session of a report dated today, none where it is not asked. -/
def State.askReport (s : State) (e : BookEntry) (k : Session) : Option ReportAnswer :=
  if e.date = s.days.today && e.scope.covers k then some (s.reportAnswer e.pupil k) else none

/-- R143: one session of a report: the REPORT change, then the flag its answer sets. -/
def State.applyReport (s : State) (e : BookEntry) (k : Session) : State :=
  match s.askReport e k with
  | some a =>
    (s.reportChange e.pupil k e.reason).flagBook e.pupil e.date (a = .converted) (a = .contradicted)
  | none => s

/-- R143: the code of an answer. -/
def encAnswer : ReportAnswer → Bytes
  | .converted => [0#8]
  | .contradicted => [1#8]
  | .unchanged => [2#8]

/-- R143: the reply to REPORT_ADD: whether the entry replaced another, its position, the answers, the entry's flags
and the number held. A session that the scope does not cover has no answer, by the presence byte 0 (DESIGN CHOICE,
log 6). -/
def reportReply (before after : State) (e : BookEntry) : Bytes :=
  okReply (encFlag (before.bookEntry e.pupil e.date).isSome ++
    u8 (after.book.findIdx fun f => f.pupil = e.pupil && f.date = e.date) ++
    encOption encAnswer (before.askReport e .s1) ++
    encOption encAnswer (before.askReport e .s2) ++
    encFlag (((after.bookEntry e.pupil e.date).map BookEntry.used).getD false) ++
    encFlag (((after.bookEntry e.pupil e.date).map BookEntry.contradicted).getD false) ++
    u16 after.book.length)

/-- R142, R143: a report that passed its checks is stored and applied, session 1 before session 2. -/
def State.addReport (s : State) (e : BookEntry) : State :=
  ((s.storeEntry e).applyReport e .s1).applyReport e .s2

/-- R142: REPORT_ADD at the Reason Book. -/
def serveReportAdd (index : BitVec 16) (date : DateField) (scope reason origin : Byte) (s : State) : Served :=
  unlessRolling s <|
    if !s.clock.isSet then answer s stateReply
    else if Config.rollSlots ≤ index.toNat then answer s (badField 0)
    else
      match reportFields s.days.today date scope reason origin with
      | .error n => answer s (badField n)
      | .ok (d, c, r, o) =>
        if (s.pupilAt index.toNat).isNone then answer s noSuch
        else if (s.bookEntry index.toNat d).isNone && Config.bookEntries ≤ s.book.length then answer s fullReply
        else
          let e : BookEntry := { pupil := index.toNat, date := d, scope := c, reason := r, origin := o, used := false,
                                 contradicted := false }
          (s.addReport e, reportReply s (s.addReport e) e)

/-- REPORT_ADD (R142, R143). -/
def execReportAdd (index : BitVec 16) (date : DateField) (scope reason origin : Byte) (s : State) : Out :=
  request 0x60#8 (serveReportAdd index date scope reason origin) s

/-! ### REPORT_CANCEL and BOOK_READ (R144, R145) -/

/-- R139: a scope in a reply. -/
def encScope : Scope → Bytes
  | .s1 => [0#8]
  | .s2 => [1#8]
  | .both => [2#8]
  | .arrivingLate => [3#8]

/-- R139: an origin in a reply. -/
def encReportOrigin : ReportOrigin → Bytes
  | .parent => [0#8]
  | .office => [1#8]

/-- R139: an entry in the order of its fields. -/
def encEntryFields (e : BookEntry) : Bytes :=
  encDate e.date ++ encScope e.scope ++ encReason e.reason ++ encReportOrigin e.origin ++ encFlag e.used ++
    encFlag e.contradicted

/-- R144: REPORT_CANCEL at the Reason Book. -/
def serveReportCancel (index : BitVec 16) (date : DateField) (s : State) : Served :=
  unlessRolling s <|
    if Config.rollSlots ≤ index.toNat then answer s (badField 0)
    else if !dateOk date then answer s (badField 1)
    else
      match s.bookEntry index.toNat (dateDay date) with
      | none => answer s noSuch
      | some e =>
        let rest := s.book.filter fun f => !(f.pupil = e.pupil && f.date = e.date)
        (s.withBook rest, okReply (u16 e.pupil ++ encEntryFields e ++ u16 rest.length))

/-- REPORT_CANCEL (R144). -/
def execReportCancel (index : BitVec 16) (date : DateField) (s : State) : Out :=
  request 0x61#8 (serveReportCancel index date) s

/-- The pupil number of a roll index, as the record holds it. -/
def State.numberAt (s : State) (i : Nat) : Nat := ((s.pupilAt i).map Pupil.number).getD 0

/-- R145: entries of BOOK_READ with their positions. -/
def encBookFrom (s : State) (position : Nat) : List BookEntry → Bytes
  | [] => []
  | e :: l =>
    u8 position ++ u16 e.pupil ++ u24 (s.numberAt e.pupil) ++ encEntryFields e ++ encBookFrom s (position + 1) l

/-- R145: BOOK_READ at the Reason Book; a position byte is always in range. -/
def serveBookRead (position count : Byte) (s : State) : Served :=
  if count.toNat = 0 || Config.readRun < count.toNat then answer s (badField 1)
  else
    let l := (s.book.drop position.toNat).take count.toNat
    answer s (okReply (u16 s.book.length ++ u8 l.length ++ encBookFrom s position.toNat l))

/-- BOOK_READ (R145). -/
def execBookRead (position count : Byte) (s : State) : Out := request 0x62#8 (serveBookRead position count) s

end Sys2Proof.Machine
end

