-- ==== Sys2Proof/Machine/Desk.lean ====
section
/-! DEFINITION. The Desk Line Controller: frames, terminal records, the poll schedule, acceptance and taps
(R82 to R98), and the meanings of its commands. -/

namespace Sys2Proof.Machine

/-! ### Terminal records -/

/-- The record of a terminal. -/
def State.terminal (s : State) (t : Fin 4) : Terminal := s.desk.terminals[t]

/-- Replace the record of a terminal. -/
def State.putTerminal (s : State) (t : Fin 4) (v : Terminal) : State :=
  s.withDesk { s.desk with terminals := s.desk.terminals.set t v }

/-- Put the line into a state. -/
def State.setLine (s : State) (l : DeskLine) : State := s.withDesk { s.desk with line := l }

/-- R87: a terminal is in the enabled set. -/
def Params.enables (p : Params) (t : Fin 4) : Bool := p.enabled.getLsbD t.val

/-- R88: the terminal becomes DISABLED. -/
def Terminal.disable (v : Terminal) : Terminal := { v with state := .disabled, slot := none, due := false }

/-- R88: the terminal becomes OFFLINE as its address is added to the enabled set. -/
def Terminal.enable (v : Terminal) : Terminal := { v with state := .offline, consecutive := 0, due := true }

/-- R84: the terminal of an address 1 to 4. -/
def terminalOf (b : Byte) : Option (Fin 4) :=
  if h : 1 ≤ b.toNat ∧ b.toNat ≤ 4 then some ⟨b.toNat - 1, by omega⟩ else none

/-- R86: the exchange in flight is with this terminal. -/
def Desk.exchangeWith (d : Desk) (t : Fin 4) : Bool :=
  match d.line with
  | .exchange e => e.terminal = t
  | _ => false

/-- R88: one terminal takes up the enabled set; an exchange in flight with it is left to end first. An address added again
before that exchange has ended finds its terminal not DISABLED and changes nothing of it (DESIGN CHOICE, log 21). -/
def State.applyEnabled (s : State) (t : Fin 4) : State :=
  if s.params.enables t then
    (if (s.terminal t).state = .disabled then s.putTerminal t (s.terminal t).enable else s)
  else if (s.terminal t).state = .disabled || s.desk.exchangeWith t then s
  else s.putTerminal t (s.terminal t).disable

/-- R88, R193: the enabled set is stored and the terminals take it up. -/
def State.setEnabled (s : State) (v : BitVec 4) : State :=
  allTerminals.foldl State.applyEnabled (s.withParams { s.params with enabled := v })

/-! ### Frames (R83, R84) -/

/-- The sum of data characters modulo 256. -/
def charSum : Bytes → Byte
  | [] => 0#8
  | b :: l => b + charSum l

/-- R83: the data characters of a poll before the checksum. -/
def pollData (ready : Bool) (carries : Option Verdict) : Bytes :=
  [1#8] ++ encFlag ready ++
    match carries with
    | some v => [1#8] ++ encVerdict v
    | none => [0#8]

/-- R83: a poll frame. -/
def pollFrame (t : Fin 4) (ready : Bool) (carries : Option Verdict) : List LineChar :=
  { mark := true, value := BitVec.ofNat 8 (t.val + 1) } ::
    (pollData ready carries ++ [-charSum (pollData ready carries)]).map fun b => { mark := false, value := b }

/-- R84: what a valid reply carries. -/
inductive ReplyContent where
  | noTap
  | tap (card : Nat) (kind : TapKind)
  deriving DecidableEq, Repr

/-- R84, R85: the kind and reason of a tap in a reply. -/
def replyKind (kind reason : Byte) : Option TapKind :=
  if kind = 1#8 then some .tapIn
  else if kind = 2#8 then (tapReasonOf reason).map TapKind.tapOut
  else none

/-- R84, R85: the data characters of a reply, the checksum included, read; none where R85 forbids them. -/
def replyContent : Bytes → Option ReplyContent
  | [flag, _] => if flag = 0#8 then some .noTap else none
  | [flag, c3, c2, c1, c0, kind, reason, _] =>
    if flag = 1#8 then
      (replyKind kind reason).map fun k =>
        .tap (((c3.toNat * 256 + c2.toNat) * 256 + c1.toNat) * 256 + c0.toNat) k
    else none
  | _ => none

/-- R85: the reply of a terminal, judged: none where it is a miss. -/
def judgeReply (t : Fin 4) (address : Byte) (characters : Bytes) : Option ReplyContent :=
  if address = BitVec.ofNat 8 (t.val + 17) && charSum characters = 0#8 then replyContent characters else none

/-! ### Ends of an exchange (R86, R88, R89, R92, R93) -/

/-- R86, R88: the exchange ends; a terminal whose address has left the enabled set becomes DISABLED now. One whose address
was removed and added again while the exchange was open is left as if never removed (DESIGN CHOICE, log 21). -/
def State.closeExchange (s : State) (t : Fin 4) (l : DeskLine) : State :=
  if s.params.enables t then s.setLine l else (s.setLine l).putTerminal t (s.terminal t).disable

/-- R89: an ONLINE terminal's record after a miss. -/
def Terminal.missed (v : Terminal) : Terminal :=
  if v.consecutive + 1 < Config.missLimit then
    { v with consecutive := v.consecutive + 1, misses := bump v.misses }
  else
    { v with state := .offline, consecutive := v.consecutive + 1, slot := none, due := false, misses := bump v.misses }

/-- R89: a miss. -/
def State.miss (s : State) (t : Fin 4) : State :=
  if (s.terminal t).state = .online then
    (if (s.terminal t).missed.state = .offline then
      (s.putTerminal t (s.terminal t).missed).raise .terminal
    else s.putTerminal t (s.terminal t).missed)
  else s

/-- R88, R95: a terminal's record after a valid reply, the verdict of the poll delivered. -/
def Terminal.answered (v : Terminal) (carried : Bool) : Terminal :=
  { v with state := .online, consecutive := 0, due := false, slot := if carried then none else v.slot }

/-- R88: a valid reply brings the terminal's record up to date. -/
def State.validReply (s : State) (e : Exchange) : State :=
  let t := s.putTerminal e.terminal ((s.terminal e.terminal).answered e.carries.isSome)
  if (s.terminal e.terminal).state = .offline then t.raise .terminal else t

/-- R92: a tap is taken: stamped, and put at the end of the tap queue. -/
def State.takeTap (s : State) (t : Fin 4) (card : Nat) (kind : TapKind) : State :=
  let v := s.terminal t
  let marked := s.putTerminal t { v with tapQueued := true, taken := bump v.taken }
  marked.withDesk { marked.desk with
    taps := s.desk.taps ++ [{ stamp := s.now, terminal := t, card := card, kind := kind }] }

/-- R93: a tap sent against WAIT is discarded. -/
def State.discardTap (s : State) (t : Fin 4) : State :=
  (s.putTerminal t { s.terminal t with discarded := bump (s.terminal t).discarded }).raise .loss

/-- R92, R93: the tap of a valid reply. -/
def State.useTap (s : State) (e : Exchange) : ReplyContent → State
  | .noTap => s
  | .tap card kind => if e.ready then s.takeTap e.terminal card kind else s.discardTap e.terminal

/-- R86: the exchange ends in a miss, and the line goes idle or waits for quiet. -/
def State.missExchange (s : State) (l : DeskLine) (e : Exchange) : State :=
  (s.miss e.terminal).closeExchange e.terminal l

/-- R85, R86: the checksum character of a reply has arrived. -/
def State.judgeExchange (s : State) (e : Exchange) (address : Byte) (characters : Bytes) : State :=
  match judgeReply e.terminal address characters with
  | some c => ((s.validReply e).useTap e c).closeExchange e.terminal .idle
  | none => s.missExchange .quiet e

/-! ### Polls (R90, R91) -/

/-- R90: the lowest terminal that satisfies a test. -/
def firstTerminal (p : Fin 4 → Bool) : Option (Fin 4) := allTerminals.find? p

/-- R90: an OFFLINE terminal whose offline poll is due. -/
def Desk.offlineDue (d : Desk) (t : Fin 4) : Bool := d.terminals[t].state = .offline && d.terminals[t].due

/-- R90: a terminal is ONLINE. -/
def Desk.isOnline (d : Desk) (t : Fin 4) : Bool := d.terminals[t].state = .online

/-- R90: the terminal lies above the address of the last ONLINE poll. -/
def Desk.afterRound (d : Desk) (t : Fin 4) : Bool :=
  match d.round with
  | some l => l < t
  | none => true

/-- R90: the next ONLINE terminal in the round. -/
def Desk.nextOnline (d : Desk) : Option (Fin 4) :=
  match firstTerminal fun t => d.isOnline t && d.afterRound t with
  | some t => some t
  | none => firstTerminal d.isOnline

/-- R90: the terminal to poll next. -/
def Desk.choose (d : Desk) : Option (Fin 4) :=
  match firstTerminal d.offlineDue with
  | some t => some t
  | none => d.nextOnline

/-- R91: the acceptance of a poll that begins now; the poll carries whatever verdict the slot holds. -/
def Desk.accepts (d : Desk) (t : Fin 4) : Bool := !d.terminals[t].tapQueued && d.taps.length < Config.tapQueue

/-- R83, R90, R91: a poll begins. -/
def State.beginPoll (s : State) (t : Fin 4) : State :=
  let v := s.terminal t
  let e : Exchange :=
    { terminal := t, ready := s.desk.accepts t, carries := v.slot,
      frame := pollFrame t (s.desk.accepts t) v.slot, phase := .sending }
  let polled := (s.putTerminal t { v with due := false }).setLine (.exchange e)
  if v.state = .online then polled.withDesk { polled.desk with round := some t } else polled

/-! ### Starts and stops (R98) -/

/-- R98: a terminal's record at a start or on entry to RETAIN; `lost` is how many of its taps leave the queue, and
`due` whether its offline poll is due. -/
def Terminal.stopped (v : Terminal) (enabled due : Bool) (lost : Nat) : Terminal :=
  { v with
    state := if enabled then .offline else .disabled
    consecutive := if enabled then 0 else v.consecutive
    tapQueued := false, slot := none, due := enabled && due
    discarded := addUpTo Config.counterTop v.discarded lost }

/-- R98: the record of one terminal as the desk line stops. -/
def State.stoppedTerminal (s : State) (due : Bool) (t : Fin 4) : Terminal :=
  (s.terminal t).stopped (s.params.enables t) due (s.desk.taps.filter fun p => p.terminal = t).length

/-- R98: the desk line is stopped, at a start (`due`) or on entry to RETAIN. -/
def State.stopDesk (s : State) (due : Bool) : State :=
  s.withDesk
    { terminals := #v[s.stoppedTerminal due 0, s.stoppedTerminal due 1, s.stoppedTerminal due 2,
        s.stoppedTerminal due 3]
      taps := [], line := .idle, round := none }

/-! ### Commands -/

/-- R86: an exchange is open and its phase satisfies a test. -/
def Desk.inPhase (d : Desk) (p : ExchangePhase → Bool) : Bool :=
  match d.line with
  | .exchange e => p e.phase
  | _ => false

/-- R86: what to do with the exchange in flight. -/
def State.onExchange (s : State) (f : Exchange → State) : State :=
  match s.desk.line with
  | .exchange e => f e
  | _ => s

/-- R86: the reply is being taken in. -/
def ExchangePhase.isReceiving : ExchangePhase → Bool
  | .receiving _ => true
  | _ => false

/-- OFFLINE_POLL_DUE (R90). -/
def execOfflinePollDue (terminal : Byte) (s : State) : Out :=
  match terminalOf terminal with
  | some t =>
    event (fun s => (s.terminal t).state = .offline) (fun s => s.putTerminal t { s.terminal t with due := true }) s
  | none => .next s

/-- POLL_START (R90, R91). -/
def execPollStart (s : State) : Out :=
  match s.desk.choose with
  | some t => event (fun s => s.desk.line = .idle) (fun s => s.beginPoll t) s
  | none => .next s

/-- POLL_SENT (R82). -/
def execPollSent (s : State) : Out :=
  event (fun s => s.desk.inPhase (· = .sending))
    (fun s => s.onExchange fun e => s.setLine (.exchange { e with phase := .waiting })) s

/-- R82, R86: an address character: it begins the reply that is waited for, makes a miss of one that is being taken in,
and is discarded while the poll is being sent. -/
def State.hearAddress (s : State) (value : Byte) (e : Exchange) : State :=
  match e.phase with
  | .sending => s
  | .waiting => s.setLine (.exchange { e with phase := .receiving value })
  | .receiving _ => s.missExchange .quiet e

/-- REPLY_ADDRESS_CHARACTER (R86). -/
def execReplyAddressCharacter (value : Byte) (s : State) : Out :=
  event (fun s => s.desk.inPhase (· ≠ .sending)) (fun s => s.onExchange (s.hearAddress value)) s

/-- R85: the reply of an exchange that is taking one in. -/
def State.receiveReply (s : State) (characters : Bytes) (e : Exchange) : State :=
  match e.phase with
  | .receiving a => s.judgeExchange e a characters
  | _ => s

/-- REPLY_RECEIVED (R85). -/
def execReplyReceived (characters : Bytes) (s : State) : Out :=
  event (fun s => s.desk.inPhase ExchangePhase.isReceiving) (fun s => s.onExchange (s.receiveReply characters)) s

/-- REPLY_FAULT (R86), within a reply. A character with a framing fault that arrives while the reply is still waited for is
discarded: it neither begins the reply nor makes a miss (DESIGN CHOICE, log 24). -/
def execReplyFault (s : State) : Out :=
  event (fun s => s.desk.inPhase ExchangePhase.isReceiving)
    (fun s => s.onExchange (s.missExchange .quiet)) s

/-- CHARACTER_GAP_TIMEOUT (R86). -/
def execCharacterGapTimeout (s : State) : Out :=
  event (fun s => s.desk.inPhase ExchangePhase.isReceiving)
    (fun s => s.onExchange (s.missExchange .idle)) s

/-- REPLY_TIMEOUT (R86). -/
def execReplyTimeout (s : State) : Out :=
  event (fun s => s.desk.inPhase (· = .waiting))
    (fun s => s.onExchange (s.missExchange .idle)) s

/-- QUIET_TIME_END (R86). -/
def execQuietTimeEnd (s : State) : Out := event (fun s => s.desk.line = .quiet) (fun s => s.setLine .idle) s

/-- R87: a terminal state in a reply. -/
def encTerminalState : TerminalState → Bytes
  | .disabled => [0#8]
  | .offline => [1#8]
  | .online => [2#8]

/-- R97: a terminal record in a reply. -/
def encTerminal (v : Terminal) : Bytes :=
  encTerminalState v.state ++ u8 v.consecutive ++ encFlag v.tapQueued ++ encOption encVerdict v.slot ++ u16 v.taken ++
    u16 v.discarded ++ u16 v.misses

/-- R97: TERMINAL_READ at the Desk Line Controller. -/
def serveTerminalRead (s : State) : Served :=
  answer s (okReply (u8 s.params.enabled.toNat ++ u8 s.desk.taps.length ++
    encAll (fun t => encTerminal (s.terminal t)) allTerminals))

/-- TERMINAL_READ (R97). -/
def execTerminalRead (s : State) : Out := request 0x48#8 serveTerminalRead s

end Sys2Proof.Machine
end

