-- ==== Sys2Proof/Machine/Arrivals.lean ====
section
/-! DEFINITION. The Arrival Processor: the judgement of taps and of office sign-ins and sign-outs, the off-site list
and the arrivals log (R99 to R121), and the meanings of its commands. -/

namespace Sys2Proof.Machine

/-! ### The off-site list and the log (R115, R117, R118) -/

/-- R115: the pupil's entry on the off-site list. -/
def State.offsiteEntry (s : State) (i : Nat) : Option OffsiteEntry := s.arrivals.offsite.find? fun e => e.pupil = i

/-- R103: the pupil is taken off the off-site list. -/
def State.takeOffList (s : State) (i : Nat) : State :=
  s.withArrivals { s.arrivals with offsite := s.arrivals.offsite.filter fun e => e.pupil ≠ i }

/-- R114: the pupil is placed on the off-site list. -/
def State.putOffsite (s : State) (i seconds : Nat) (r : Reason) : State :=
  s.withArrivals { s.arrivals with offsite := s.arrivals.offsite ++ [{ pupil := i, seconds := seconds, reason := r }] }

/-- R117, R118: a record joins the log; a full log loses its oldest record. -/
def State.writeLog (s : State) (r : LogRecord) : State :=
  if s.arrivals.log.length < Config.arrivalsLog then
    s.withArrivals { s.arrivals with
      log := s.arrivals.log ++ [r], nextSequence := wrapNext s.arrivals.nextSequence }
  else
    (s.withArrivals { s.arrivals with
      log := s.arrivals.log.tail ++ [r], nextSequence := wrapNext s.arrivals.nextSequence,
      overwrites := bump s.arrivals.overwrites }).raise .loss

/-! ### Judgements (R102 to R110, R114) -/

/-- What a judgement leaves: the state, the verdict and its session, and the Roll Store's answer where a change was
asked for. -/
structure Judgement where
  state : State
  code : VerdictCode
  minutes : Nat
  session : Option Session
  answer : Option TapAnswer

/-- A verdict that changed nothing and carries no minutes. -/
def verdictOnly (s : State) (c : VerdictCode) (k : Option Session) : Judgement :=
  { state := s, code := c, minutes := 0, session := k, answer := none }

/-- R104: an entry has fired and its effective time is not greater than the stamp. -/
def RunningEntry.reached (e : RunningEntry) (t : Nat) : Bool := e.state ≠ .pending && e.effective ≤ (t : Int)

/-- R104: the session is open for a stamp. -/
def RunningPlan.openedBy (r : RunningPlan) (k : Session) (t : Nat) : Bool :=
  match r.openEntry k with
  | some e => e.reached t
  | none => false

/-- R104: the highest session open for a stamp, none before the first opening. -/
def RunningPlan.opened (r : RunningPlan) (t : Nat) : Option Session :=
  if r.openedBy .s2 t then some .s2 else if r.openedBy .s1 t then some .s1 else none

/-- R104: the reference session. -/
def RunningPlan.reference (r : RunningPlan) (t : Nat) : Session := (r.opened t).getD .s1

/-- R104: the track's DAY_CLOSE has been reached. -/
def RunningPlan.dayClosedBy (r : RunningPlan) (t : Nat) : Bool :=
  r.entries.any fun e => e.entry.kind = .dayClose && e.reached t

/-- R106: the lateness seconds of an arrival for a session. -/
def RunningPlan.lateness (r : RunningPlan) (k : Session) (t grace : Nat) : Int :=
  match r.openEntry k with
  | some e => (t : Int) - e.effective - (grace : Int)
  | none => 0

/-- R106: the minutes late, rounded up and saturated at 255. -/
def minutesLate (l : Int) : Nat := min 255 ((l.toNat + 59) / 60)

/-- R107: the stamp is at or after the register close of the session. -/
def RunningPlan.closedBy (r : RunningPlan) (k : Session) (t : Nat) : Bool :=
  match r.closeEntry k with
  | some e => e.effective ≤ (t : Int)
  | none => false

/-- What the lateness rules make of an arrival: the value, the minutes and whether it is explained (R105 to R108). -/
structure Lateness where
  value : MarkValue
  minutes : Nat
  explained : Bool
  deriving DecidableEq, Repr

/-- R105: an arrival that is on time. -/
def onTime : Lateness := { value := .present, minutes := 0, explained := false }

/-- R105 to R107: the value of an arrival, before the reason book is asked. -/
def RunningPlan.arrivalValue (r : RunningPlan) (t grace : Nat) : Lateness :=
  match r.opened t with
  | none => onTime
  | some k =>
    if r.lateness k t grace ≤ 0 then onTime
    else
      { value := if r.closedBy k t then .lateClosed else .late, minutes := minutesLate (r.lateness k t grace)
        explained := false }

/-- R108: an entry that covers the session with a reason that explains lateness makes a late arrival explained. -/
def Lateness.explain (l : Lateness) (e : Option BookEntry) : Lateness :=
  match e with
  | some b =>
    if l.value.isLate && b.reason.explainsLateness then { value := .late, minutes := l.minutes, explained := true } else l
  | none => l

/-- R108, R109: the verdict of an arrival that is written. -/
def Lateness.code (l : Lateness) : VerdictCode :=
  if l.explained then .lateExplained
  else match l.value with
    | .late => .late
    | .lateClosed => .lateClosed
    | _ => .onTime

/-- R109: the verdict of a TAP change that is not taken. -/
def TapAnswer.code : TapAnswer → VerdictCode
  | .notExpected => .notExpected
  | .outsideDay => .outsideDay
  | _ => .repeated

/-- R108: the entry that covers the session is flagged. -/
def State.flagArrival (s : State) (i : Nat) (k : Session) (l : Lateness) : State :=
  if (s.coveringEntry i k).isSome then s.flagBook i s.days.today l.explained (!l.explained) else s

/-- R110: the LATE notice of an arrival. -/
def State.offerLate (s : State) (i : Nat) (p : Pupil) (k : Session) (l : Lateness) : State :=
  if (l.code = .late || l.code = .lateClosed) && p.contact && s.params.lateNotices[p.track] then
    s.offer { kind := .late k l.minutes (l.code = .lateClosed), pupil := i, number := p.number, date := s.days.today,
              release := none }
  else s

/-- R105 to R110: an arrival for its reference session. -/
def State.arrive (s : State) (i : Nat) (p : Pupil) (t : Nat) : Judgement :=
  let r := s.plan p.track
  let k := r.reference t
  let l := (r.arrivalValue t s.params.grace[p.track]).explain (s.coveringEntry i k)
  if s.tapAnswer p k = .applied then
    { state := ((s.tapChange i p k l.value l.minutes l.explained).flagArrival i k l).offerLate i p k l
      code := l.code, minutes := l.minutes, session := some k, answer := some .applied }
  else { verdictOnly s (s.tapAnswer p k).code (some k) with answer := some (s.tapAnswer p k) }

/-- R103: a return from the off-site list. -/
def State.comeBack (s : State) (i : Nat) (p : Pupil) (t : Nat) : Judgement :=
  let r := s.plan p.track
  if r.hasPlan then
    { state := (s.takeOffList i).tapReturn i p (r.reference t)
      code := .returned, minutes := 0, session := some (r.reference t)
      answer := some (s.returnAnswer p (r.reference t)) }
  else verdictOnly (s.takeOffList i) .returned none

/-- R102 to R105: an IN tap of a known pupil, from the clock check onward. -/
def State.judgeIn (s : State) (i : Nat) (p : Pupil) (d : Stamp) : Judgement :=
  if !s.clock.isSet then verdictOnly s .notExpected none
  else if d.date ≠ s.days.today then verdictOnly s .outsideDay none
  else if (s.offsiteEntry i).isSome then s.comeBack i p d.seconds
  else if !(s.plan p.track).hasPlan then verdictOnly s .notExpected none
  else if (s.plan p.track).dayClosedBy d.seconds then
    verdictOnly s .outsideDay (some ((s.plan p.track).reference d.seconds))
  else s.arrive i p d.seconds

/-- R114: an OUT tap or sign-out of a known pupil, from the clock check onward. -/
def State.judgeOut (s : State) (i : Nat) (p : Pupil) (d : Stamp) (reason : Reason) : Judgement :=
  if !s.clock.isSet then verdictOnly s .notExpected none
  else if d.date ≠ s.days.today then verdictOnly s .outsideDay none
  else if (s.offsiteEntry i).isSome then verdictOnly s .alreadyOut none
  else if !(s.plan p.track).hasPlan then verdictOnly s .notExpected none
  else if (s.plan p.track).day = .ended then verdictOnly s .outsideDay none
  else if Config.offsiteList ≤ s.arrivals.offsite.length then verdictOnly s .offsiteFull none
  else verdictOnly (s.putOffsite i d.seconds reason) .signedOut none

/-- R111, R117: the log record that ends a judgement. -/
def Judgement.logged (j : Judgement) (d : Stamp) (pupil : Option Nat) (terminal : Nat) (isOut : Bool) : State :=
  j.state.writeLog
    { sequence := j.state.arrivals.nextSequence, stamp := d, pupil := pupil, terminal := terminal, isOut := isOut,
      verdict := j.code, session := j.session, minutes := j.minutes }

/-- An OUT tap. -/
def TapKind.isOut : TapKind → Bool
  | .tapIn => false
  | .tapOut _ => true

/-- R101: the kind decides which rules judge a known pupil's tap. -/
def State.judgeKnown (s : State) (i : Nat) (p : Pupil) (tap : Tap) : Judgement :=
  match tap.kind with
  | .tapIn => s.judgeIn i p tap.stamp
  | .tapOut r => s.judgeOut i p tap.stamp r

/-- R102, R114: the pupil that a tap's card names. -/
def State.tapPupil (s : State) (tap : Tap) : Option (Nat × Pupil) :=
  match s.slotOfCard tap.card with
  | some i =>
    match s.pupilAt i with
    | some p => some (i, p)
    | none => none
  | none => none

/-- R95: a tap's verdict goes into an ONLINE terminal's verdict slot, and the terminal has no tap in the queue. -/
def State.handBack (s : State) (t : Fin 4) (v : Verdict) : State :=
  s.putTerminal t { s.terminal t with
    tapQueued := false
    slot := if (s.terminal t).state = .online then some v else (s.terminal t).slot }

/-- R99, R111: a tap is judged whole: judgement, log record, hand-back. -/
def State.judgeTap (s : State) (tap : Tap) : State :=
  match s.tapPupil tap with
  | none =>
    ((verdictOnly s .unknownCard none).logged tap.stamp none (tap.terminal.val + 1) tap.kind.isOut).handBack
      tap.terminal { code := .unknownCard, minutes := 0, number := 0 }
  | some (i, p) =>
    let j := s.judgeKnown i p tap
    (j.logged tap.stamp (some i) (tap.terminal.val + 1) tap.kind.isOut).handBack
      tap.terminal { code := j.code, minutes := j.minutes, number := p.number }

/-- R94, R99: the oldest tap leaves the queue and is judged. -/
def State.judgeOldest (s : State) : State :=
  match s.desk.taps with
  | tap :: rest => (s.withDesk { s.desk with taps := rest }).judgeTap tap
  | [] => s

/-- TAP_JUDGEMENT (R99). -/
def execTapJudgement (s : State) : Out :=
  event (fun s => !s.rolling && !s.desk.taps.isEmpty) State.judgeOldest s

/-! ### Requests (R112, R113, R116, R119) -/

/-- R112: the mark in the reply of a SIGN_IN whose change was APPLIED. -/
def Judgement.markAfter (j : Judgement) (i : Nat) : Option Mark :=
  match j.answer, j.session, j.state.pupilAt i with
  | some .applied, some k, some p => some (p.mark k)
  | _, _, _ => none

/-- R112: SIGN_IN at the Arrival Processor. -/
def serveSignIn (index : BitVec 16) (s : State) : Served :=
  unlessRolling s <|
    if Config.rollSlots ≤ index.toNat then answer s (badField 0)
    else
      match s.pupilAt index.toNat with
      | none => answer s noSuch
      | some p =>
        let j := s.judgeIn index.toNat p s.now
        (j.logged s.now (some index.toNat) 0 false,
          okReply ([j.code.code] ++ u8 j.minutes ++ u24 p.number ++ encOption encSession j.session ++
            u16 j.state.arrivals.nextSequence ++ encOption encMark (j.markAfter index.toNat)))

/-- SIGN_IN (R112). -/
def execSignIn (index : BitVec 16) (s : State) : Out := request 0x50#8 (serveSignIn index) s

/-- R113: a reason that SIGN_OUT may carry. -/
def signOutReasonOf (b : Byte) : Option Reason :=
  match reasonOf b with
  | some r => if signOutReason r then some r else none
  | none => none

/-- R113: SIGN_OUT at the Arrival Processor. -/
def serveSignOut (index : BitVec 16) (reason : Byte) (s : State) : Served :=
  unlessRolling s <|
    if Config.rollSlots ≤ index.toNat then answer s (badField 0)
    else
      match signOutReasonOf reason with
      | none => answer s (badField 1)
      | some r =>
        match s.pupilAt index.toNat with
        | none => answer s noSuch
        | some p =>
          let j := s.judgeOut index.toNat p s.now r
          (j.logged s.now (some index.toNat) 0 true,
            okReply ([j.code.code] ++ u24 p.number ++ u16 j.state.arrivals.nextSequence))

/-- SIGN_OUT (R113). -/
def execSignOut (index : BitVec 16) (reason : Byte) (s : State) : Out := request 0x51#8 (serveSignOut index reason) s

/-- R116: an entry of the off-site list in a reply. -/
def encOffsite (s : State) (e : OffsiteEntry) : Bytes :=
  u16 e.pupil ++ u24 (s.numberAt e.pupil) ++ encTime e.seconds ++ encReason e.reason

/-- R116: OFFSITE_READ at the Arrival Processor: the answer gives the number of entries, and each entry in list order,
whatever its length: 1,154 bytes for 128 entries, of which the link sends 1,040 (`sentPayload`, log 8). The
number stands once, as the count that R188 puts before the list (DESIGN CHOICE, log 6). -/
def serveOffsiteRead (s : State) : Served := answer s (okReply (encList (encOffsite s) s.arrivals.offsite))

/-- OFFSITE_READ (R116). -/
def execOffsiteRead (s : State) : Out := request 0x52#8 serveOffsiteRead s

/-- R117: a log record in a reply; the kind IN is 0 and OUT is 1. -/
def encLog (r : LogRecord) : Bytes :=
  u16 r.sequence ++ encStamp r.stamp ++ encOption u16 r.pupil ++ u8 r.terminal ++ encFlag r.isOut ++
    [r.verdict.code] ++ encOption encSession r.session ++ u8 r.minutes

/-- R119: the oldest sequence number held; the next one for an empty log. -/
def Arrivals.oldest (a : Arrivals) : Nat := ((a.log.head?).map LogRecord.sequence).getD a.nextSequence

/-- R119: the records from the one with sequence number `n` onward. -/
def Arrivals.since (a : Arrivals) (n : Nat) : List LogRecord := a.log.dropWhile fun r => r.sequence ≠ n

/-- R119: the fields of the reply to ARRIVALS_READ. -/
def Arrivals.readReply (a : Arrivals) (l : List LogRecord) : Bytes :=
  u16 a.oldest ++ u16 a.nextSequence ++ u16 a.overwrites ++ encList encLog l

/-- R119: ARRIVALS_READ at the Arrival Processor. -/
def serveArrivalsRead (start : BitVec 16) (count : Byte) (s : State) : Served :=
  if count.toNat = 0 || Config.readRun < count.toNat then answer s (badField 1)
  else if s.arrivals.log.any fun r => r.sequence = start.toNat then
    answer s (okReply (s.arrivals.readReply ((s.arrivals.since start.toNat).take count.toNat)))
  else if start.toNat = s.arrivals.nextSequence then answer s (okReply (s.arrivals.readReply []))
  else answer s (clampedReply (s.arrivals.readReply (s.arrivals.log.take count.toNat)))

/-- ARRIVALS_READ (R119). -/
def execArrivalsRead (start : BitVec 16) (count : Byte) (s : State) : Out :=
  request 0x53#8 (serveArrivalsRead start count) s

end Sys2Proof.Machine
end

