-- ==== Sys2Proof/Machine/Rings.lean ====
section
/-! DEFINITION. The Ring Unit: patterns, ring jobs, relay takeover, the chime line and its arbiter (R68 to R80), and
the meanings of its commands. -/

namespace Sys2Proof.Machine

/-! ### Patterns (R68) -/

/-- R68: a pattern has a step with a nonzero tone. -/
def tonal (steps : List PatternStep) : Bool := steps.any fun p => p.tone ≠ 0

/-- R68: the duration of a pattern in units of 50 ms. -/
def duration : List PatternStep → Nat
  | [] => 0
  | p :: l => p.repeats * (p.onUnits + p.offUnits) + duration l

/-- R68: the pattern as it would be played: pattern 0 in place of an empty one. -/
def RingUnit.played (r : RingUnit) (n : Fin 16) : List PatternStep :=
  if r.patterns[n].isEmpty then r.patterns[0] else r.patterns[n]

/-! ### Jobs (R72 to R75) -/

/-- R72: the job is WAITING. -/
def Job.isWaiting (j : Job) : Bool := j.play.isNone

/-- R72: the jobs of the chime queue, in order of creation. -/
def RingUnit.waiting (r : RingUnit) : List Job := r.jobs.filter Job.isWaiting

/-- R69: the repeats a step begins with. -/
def repeatsOf (steps : List PatternStep) (n : Nat) : Nat := ((steps[n]?).map PatternStep.repeats).getD 0

/-- R69, R73: a job starts its pattern at its first step. -/
def Job.begin (j : Job) (holds degraded : Bool) : Job :=
  { j with
    degraded := degraded
    play := some { step := 0, repeatsLeft := repeatsOf j.steps 0, sounding := true, holdsChime := holds } }

/-- R74: a PLAYING job loses zones to another. -/
def Job.lose (j : Job) (zones : BitVec 8) : Job :=
  if j.isWaiting then j else { j with zones := j.zones &&& ~~~zones }

/-- R73, R76: a PLAYING job that has no zone and does not hold the chime line has ended. -/
def Job.spent (j : Job) : Bool := !j.isWaiting && j.zones = 0#8 && !j.holds

/-- Change the first item of a list that satisfies a test. -/
def mapFirst {α : Type} (p : α → Bool) (f : α → α) : List α → List α
  | [] => []
  | a :: l => if p a then f a :: l else a :: mapFirst p f l

/-- The job is PLAYING under a number. Job numbers wrap, so two PLAYING jobs may bear one number; a command then means
the older one (DESIGN CHOICE, log 16). -/
def Job.playsAs (n : Nat) (j : Job) : Bool := !j.isWaiting && j.number = n

/-- R73, R74: a WAITING job starts, taking its zones over from their owners. -/
def RingUnit.start (r : RingUnit) (j : Job) (holds degraded : Bool) : RingUnit :=
  { r with
    jobs := (mapFirst (fun m => m = j) (fun m => m.begin holds degraded) (r.jobs.map fun m => m.lose j.zones)).filter
      fun m : Job => !m.spent }

/-- R75: the rank of a zone set: the best rank among its zones, 8 for the empty set. -/
def zonesRank (ranks : Vector Nat 8) (zones : BitVec 8) : Nat :=
  allZones.foldl (fun best z => if hasZone zones z then min best ranks[z] else best) 8

/-- R75: the waiting job with the lowest rank, the earliest created among equals. -/
def bestWaiting (ranks : Vector Nat 8) : List Job → Option Job
  | [] => none
  | j :: l =>
    match bestWaiting ranks l with
    | none => some j
    | some k => if zonesRank ranks k.zones < zonesRank ranks j.zones then some k else some j

/-- R75: the arbiter grants a free chime line to a waiting job. -/
def RingUnit.grant (r : RingUnit) (ranks : Vector Nat 8) : RingUnit :=
  if r.holder.isSome then r
  else
    match bestWaiting ranks r.waiting with
    | some j => r.start j true false
    | none => r

/-- R73, R75: a PLAYING job ends, and the line it held, if any, is granted. -/
def RingUnit.finish (r : RingUnit) (n : Nat) (ranks : Vector Nat 8) : RingUnit :=
  { r with jobs := r.jobs.eraseP (Job.playsAs n) }.grant ranks

/-- R72: the job that a ring request makes, WAITING, with the next job number. -/
def RingUnit.newJob (r : RingUnit) (zones : BitVec 8) (steps : List PatternStep) (origin : Origin) (now : Stamp) : Job :=
  { number := r.nextJob, zones := zones, steps := steps, origin := origin, created := now, waited := 0,
    degraded := false, play := none }

/-- R72: a job is made. -/
def RingUnit.make (r : RingUnit) (j : Job) : RingUnit := { r with jobs := r.jobs ++ [j], nextJob := wrapNext r.nextJob }

/-- R76: a WAITING job is degraded: it starts relay-only, the degrade is counted and RING is raised. -/
def State.degrade (s : State) (j : Job) : State :=
  (s.withRing { s.ring.start j false true with degradedToday := bump s.ring.degradedToday }).raise .ring

/-- R72, R77: what becomes of a ring request. -/
inductive RingOutcome where
  | noJob
  | playing (job : Nat)
  | waiting (job place : Nat)
  | degraded (job : Nat)
  deriving DecidableEq, Repr

/-- R72: the outcome of a ring request, by the rule's table. -/
def RingUnit.outcome (r : RingUnit) (zones : BitVec 8) (steps : List PatternStep) : RingOutcome :=
  if !tonal steps then (if zones = 0#8 then .noJob else .playing r.nextJob)
  else if r.holder.isNone then .playing r.nextJob
  else if r.waiting.length < Config.chimeQueue then .waiting r.nextJob (r.waiting.length + 1)
  else .degraded r.nextJob

/-- R72: a ring request is taken. -/
def State.ringRequest (s : State) (zones : BitVec 8) (pattern : Fin 16) (origin : Origin) : State :=
  let steps := s.ring.played pattern
  let job := s.ring.newJob zones steps origin s.now
  match s.ring.outcome zones steps with
  | .noJob => s
  | .playing _ => s.withRing ((s.ring.make job).start job (tonal steps) false)
  | .waiting _ _ => s.withRing (s.ring.make job)
  | .degraded _ => (s.withRing (s.ring.make job)).degrade job

/-! ### Periods (R69) -/

/-- R69: replace the play of job `n`. -/
def RingUnit.setPlay (r : RingUnit) (n : Nat) (p : Play) : RingUnit :=
  { r with jobs := mapFirst (Job.playsAs n) (fun j => { j with play := some p }) r.jobs }

/-- R69: the off period of a step has ended: the next repeat, the next step, or the end of the pattern. -/
def RingUnit.nextPeriod (r : RingUnit) (j : Job) (p : Play) (ranks : Vector Nat 8) : RingUnit :=
  if 1 < p.repeatsLeft then
    r.setPlay j.number { p with repeatsLeft := p.repeatsLeft - 1, sounding := true }
  else if p.step + 1 < j.steps.length then
    r.setPlay j.number
      { p with step := p.step + 1, repeatsLeft := repeatsOf j.steps (p.step + 1), sounding := true }
  else r.finish j.number ranks

/-- R69: the length of the off period of a step. -/
def offUnitsOf (steps : List PatternStep) (n : Nat) : Nat := ((steps[n]?).map PatternStep.offUnits).getD 0

/-- The job of a number, with its play while it is PLAYING. -/
def RingUnit.playOf (r : RingUnit) (n : Nat) : Option (Job × Play) :=
  match r.jobs.find? (Job.playsAs n) with
  | some j =>
    match j.play with
    | some p => some (j, p)
    | none => none
  | none => none

/-- R69: the on period of job `n` ends; an off period of 0 takes no time. -/
def RingUnit.endOn (r : RingUnit) (n : Nat) (ranks : Vector Nat 8) : RingUnit :=
  match r.playOf n with
  | some (j, p) =>
    if offUnitsOf j.steps p.step = 0 then r.nextPeriod j p ranks else r.setPlay n { p with sounding := false }
  | none => r

/-- R69: the off period of job `n` ends. -/
def RingUnit.endOff (r : RingUnit) (n : Nat) (ranks : Vector Nat 8) : RingUnit :=
  match r.playOf n with
  | some (j, p) => r.nextPeriod j p ranks
  | none => r

/-- Job `n` is in the on period (`on`) or in the off period of a step. -/
def RingUnit.inPeriod (r : RingUnit) (n : Nat) (on : Bool) : Bool :=
  match r.playOf n with
  | some (_, p) => p.sounding == on
  | none => false

/-- ON_PERIOD_END (R69). -/
def execOnPeriodEnd (job : BitVec 16) (s : State) : Out :=
  event (fun s => s.ring.inPeriod job.toNat true) (fun s => s.withRing (s.ring.endOn job.toNat s.params.zoneRank)) s

/-- OFF_PERIOD_END (R69). -/
def execOffPeriodEnd (job : BitVec 16) (s : State) : Out :=
  event (fun s => s.ring.inPeriod job.toNat false) (fun s => s.withRing (s.ring.endOff job.toNat s.params.zoneRank)) s

/-! ### Waits (R76) -/

/-- R76: a count-up raises the seconds waited of every WAITING job. -/
def RingUnit.countWaits (r : RingUnit) : RingUnit :=
  { r with jobs := r.jobs.map fun j : Job => if j.isWaiting then { j with waited := j.waited + 1 } else j }

/-- R76: the WAITING jobs whose seconds waited have reached the chime wait limit, in order of creation. -/
def RingUnit.overdue (r : RingUnit) (limit : Nat) : List Job := r.waiting.filter fun j => limit ≤ j.waited

/-- R76: jobs are degraded one after another. -/
def State.degradeAll (s : State) : List Job → State
  | [] => s
  | j :: l => (s.degrade j).degradeAll l

/-- R76: the Ring Unit acts on the oldest count-up handed to it. -/
def State.countWaits (s : State) : State :=
  let t := (s.withCountUps { s.countUps with waits := s.countUps.waits.tail }).withRing s.ring.countWaits
  t.degradeAll (t.ring.overdue t.params.chimeWait)

/-- CHIME_WAIT_DEGRADE (R76). -/
def execChimeWaitDegrade (s : State) : Out := event (fun s => !s.countUps.waits.isEmpty) State.countWaits s

/-! ### Requests (R70, R71, R77 to R79) -/

/-- R70: a step of PATTERN_LOAD that is in range. -/
def stepOk (p : StepItem) : Bool := p.tone.toNat ≤ 8 && p.onUnits ≠ 0#8 && 1 ≤ p.repeats.toNat && p.repeats.toNat ≤ 15

/-- R70: a step as the store holds it. -/
def stepOf (p : StepItem) : PatternStep :=
  { tone := p.tone.toNat, onUnits := p.onUnits.toNat, offUnits := p.offUnits.toNat, repeats := p.repeats.toNat }

/-- R70: the steps a load stores: pattern 0 erased takes its cold default. -/
def loadedSteps (n : Fin 16) (steps : List StepItem) : List PatternStep :=
  if steps.isEmpty && n = 0 then defaultPattern else steps.map stepOf

/-- R70: PATTERN_LOAD at the Ring Unit. -/
def servePatternLoad (pattern : Byte) (steps : List StepItem) (s : State) : Served :=
  match sixteenOf pattern with
  | none => answer s (badField 0)
  | some n =>
    if Config.patternSteps < steps.length then answer s (badField 9)
    else
      match steps.findIdx? fun p => !stepOk p with
      | some i => answer s (badField (i + 1))
      | none =>
        (s.withRing { s.ring with patterns := s.ring.patterns.set n (loadedSteps n steps) },
          okReply (u8 (loadedSteps n steps).length ++ u16 (duration (loadedSteps n steps))))

/-- PATTERN_LOAD (R70). -/
def execPatternLoad (pattern : Byte) (steps : List StepItem) (s : State) : Out :=
  request 0x40#8 (servePatternLoad pattern steps) s

/-- R68: a step in a reply. -/
def encStep (p : PatternStep) : Bytes := u8 p.tone ++ u8 p.onUnits ++ u8 p.offUnits ++ u8 p.repeats

/-- R71: PATTERN_READ at the Ring Unit. -/
def servePatternRead (pattern : Byte) (s : State) : Served :=
  match sixteenOf pattern with
  | none => answer s (badField 0)
  | some n =>
    if s.ring.patterns[n].isEmpty then answer s noSuch
    else
      answer s (okReply (encList encStep s.ring.patterns[n] ++ encFlag (tonal s.ring.patterns[n]) ++
        u16 (duration s.ring.patterns[n])))

/-- PATTERN_READ (R71). -/
def execPatternRead (pattern : Byte) (s : State) : Out := request 0x41#8 (servePatternRead pattern) s

/-- R77: the outcome in the reply to RING_NOW: its place in the manual's list, the job number, the place in the queue. -/
def encRingOutcome : RingOutcome → Bytes
  | .noJob => u8 0 ++ encOption u16 none ++ encOption u8 none
  | .playing n => u8 1 ++ encOption u16 (some n) ++ encOption u8 none
  | .waiting n p => u8 2 ++ encOption u16 (some n) ++ encOption u8 (some p)
  | .degraded n => u8 3 ++ encOption u16 (some n) ++ encOption u8 none

/-- R77: RING_NOW at the Ring Unit. -/
def serveRingNow (zones pattern : Byte) (s : State) : Served :=
  match sixteenOf pattern with
  | none => answer s (badField 1)
  | some n =>
    (s.ringRequest zones n .office, okReply (encRingOutcome (s.ring.outcome zones (s.ring.played n))))

/-- RING_NOW (R77). -/
def execRingNow (zones pattern : Byte) (s : State) : Out := request 0x42#8 (serveRingNow zones pattern) s

/-- R78: after the zones are taken from their owners, the PLAYING jobs left with no zone. -/
def Job.stopped (j : Job) : Bool := !j.isWaiting && j.zones = 0#8

/-- R78: the WAITING job's zone set lies wholly among the zones named. -/
def Job.withdrawnBy (j : Job) (zones : BitVec 8) : Bool := j.isWaiting && j.zones &&& ~~~zones = 0#8

/-- R78: the four steps of RING_STOP on the jobs. -/
def RingUnit.stop (r : RingUnit) (zones : BitVec 8) (ranks : Vector Nat 8) : RingUnit :=
  { r with
    jobs := (r.jobs.map fun j : Job => j.lose zones).filter fun j : Job =>
      !j.stopped && !j.withdrawnBy zones }.grant ranks

/-- R78: RING_STOP at the Ring Unit. The number of jobs ended counts those of the rule's second step alone, and not the
PLAYING jobs that lose their last zone to the job granted at its fourth (DESIGN CHOICE, log 23). -/
def serveRingStop (zones : Byte) (s : State) : Served :=
  (s.withRing (s.ring.stop zones s.params.zoneRank),
    okReply (u8 ((s.ring.jobs.filter fun j : Job => (j.lose zones).stopped).length) ++
      u8 ((s.ring.jobs.filter fun j : Job => j.withdrawnBy zones).length)))

/-- RING_STOP (R78). -/
def execRingStop (zones : Byte) (s : State) : Out := request 0x43#8 (serveRingStop zones) s

/-- R79: an origin: absent for the office, else the track and entry index. -/
def encOrigin : Origin → Bytes
  | .office => [0#8]
  | .track t i => 1#8 :: (u8 t.val ++ u8 i)

/-- R79: a PLAYING job; the current step is counted from 1. -/
def encPlaying (j : Job) : Bytes :=
  match j.play with
  | some p =>
    u16 j.number ++ [j.zones] ++ encOrigin j.origin ++ encStamp j.created ++ encFlag j.degraded ++ u8 (p.step + 1) ++
      u8 p.repeatsLeft
  | none => []

/-- R79: a WAITING job. Its rank, 0 to 8, takes one byte: R188 names no rank (DESIGN CHOICE, log 6). -/
def encWaiting (ranks : Vector Nat 8) (j : Job) : Bytes :=
  u16 j.number ++ [j.zones] ++ encOrigin j.origin ++ encStamp j.created ++ u8 (zonesRank ranks j.zones) ++ u16 j.waited

/-- R79: a zone's owner and relay. -/
def encZone (r : RingUnit) (z : Fin 8) : Bytes :=
  encOption u16 ((r.owner z).map Job.number) ++ encFlag (r.relay z)

/-- R79: RING_READ at the Ring Unit. The PLAYING jobs are listed in order of creation, as R79 has the WAITING ones (DESIGN
CHOICE, log 6). -/
def serveRingRead (s : State) : Served :=
  answer s (okReply (encAll (encZone s.ring) allZones ++ encOption u16 (s.ring.holder.map Job.number) ++
    encOption u8 s.ring.chime ++ encList encPlaying (s.ring.jobs.filter fun j => !j.isWaiting) ++
    encList (encWaiting s.params.zoneRank) s.ring.waiting ++ u16 s.ring.degradedToday))

/-- RING_READ (R79). -/
def execRingRead (s : State) : Out := request 0x44#8 serveRingRead s

end Sys2Proof.Machine
end

