-- ==== Sys2Proof/Machine/Sweeping.lean ====
section
/-! DEFINITION. The Sweep Engine: its queue, the walk of the roll and completion (R122 to R138), and the meanings of
its commands. -/

namespace Sys2Proof.Machine

/-- R123: a sweep request joins the end of the sweep queue. -/
def State.placeSweep (s : State) (r : SweepRequest) : State :=
  s.withSweep { s.sweep with queue := s.sweep.queue ++ [r] }

/-- R129: the counts at dispatch. -/
def zeroSweepCounts : SweepCounts := { offsite := 0, book := 0, unexplained := 0, offers := 0, left := 0 }

/-- R124: a request becomes the sweep in flight. -/
def SweepRequest.dispatch (r : SweepRequest) (now : Stamp) : SweepFlight :=
  { request := r, dispatched := now, position := 0, counts := zeroSweepCounts }

/-- R124: with nothing in flight, the oldest request is dispatched. -/
def Sweep.dispatchOldest (w : Sweep) (now : Stamp) : Sweep :=
  match w.queue with
  | r :: rest => { w with queue := rest, flight := some (r.dispatch now) }
  | [] => w

/-- SWEEP_DISPATCH (R124). -/
def execSweepDispatch (s : State) : Out :=
  event (fun s => s.sweep.flight.isNone && !s.sweep.queue.isEmpty)
    (fun s => s.withSweep (s.sweep.dispatchOldest s.now)) s

/-! ### A visit (R125 to R129) -/

/-- R127: where a proposal comes from. -/
inductive Proposal where
  | offsite (reason : Reason)
  | book (reason : Reason)
  | unexplained
  deriving DecidableEq, Repr

/-- R127: the proposal for a pupil's mark. -/
def State.proposal (s : State) (i : Nat) (k : Session) : Proposal :=
  match s.offsiteEntry i, s.coveringEntry i k with
  | some e, _ => .offsite e.reason
  | none, some b => .book b.reason
  | none, none => .unexplained

/-- R127: the reason of a proposal of AUTHORISED, none for UNEXPLAINED. -/
def Proposal.reason : Proposal → Option Reason
  | .offsite r => some r
  | .book r => some r
  | .unexplained => none

/-- R128: the release time of an ABSENCE offer, none where READY at once is asked for. -/
def releaseTime (seconds settle : Nat) : Option Nat :=
  if settle = 0 then none else some (addUpTo (Config.daySeconds - 1) seconds (settle * 60))

/-- R128: an ABSENCE offer is made for a pupil whose change to UNEXPLAINED was APPLIED. -/
def State.offersAbsence (s : State) (p : Pupil) : Bool := p.contact && s.params.absenceNotices[p.track]

/-- R128: the ABSENCE offer of a visit. -/
def State.absenceOffer (s : State) (i : Nat) (p : Pupil) (k : Session) : Offer :=
  { kind := .absence k, pupil := i, number := p.number, date := s.days.today
    release := releaseTime s.clock.seconds s.params.settle[p.track] }

/-- R127, R128: what follows a proposal answered APPLIED. -/
def State.afterApplied (s : State) (i : Nat) (p : Pupil) (k : Session) : Proposal → State
  | .offsite _ => s
  | .book _ => s.flagBook i s.days.today true false
  | .unexplained => if s.offersAbsence p then s.offer (s.absenceOffer i p k) else s

/-- R129: the counts after a visit that reached a pupil. -/
def SweepCounts.tally (c : SweepCounts) (applied offered : Bool) : Proposal → SweepCounts
  | .offsite _ => if applied then { c with offsite := c.offsite + 1 } else { c with left := c.left + 1 }
  | .book _ => if applied then { c with book := c.book + 1 } else { c with left := c.left + 1 }
  | .unexplained =>
    if applied then
      { c with unexplained := c.unexplained + 1, offers := if offered then c.offers + 1 else c.offers }
    else { c with left := c.left + 1 }

/-- R127: a pupil of the sweep's track is reached: the mark, the flags and the offer of the visit. -/
def State.reachPupil (s : State) (i : Nat) (p : Pupil) (k : Session) : State :=
  if p.sweepApplies k then
    (s.sweepChange i p k (s.proposal i k).reason).afterApplied i p k (s.proposal i k)
  else s

/-- R126: the pupil at a slot, where the slot is of the sweep's track. -/
def State.sweptPupil (s : State) (f : SweepFlight) : Option Pupil :=
  match s.pupilAt f.position with
  | some p => if p.track = f.request.track then some p else none
  | none => none

/-- R125: the flight after a visit. -/
def SweepFlight.advance (f : SweepFlight) (c : SweepCounts) : SweepFlight :=
  { f with position := f.position + 1, counts := c }

/-- Replace the sweep in flight. -/
def State.setFlight (s : State) (f : SweepFlight) : State := s.withSweep { s.sweep with flight := some f }

/-- R125 to R129: the slot at the position is visited. -/
def State.visit (s : State) (f : SweepFlight) : State :=
  match s.sweptPupil f with
  | none => s.setFlight (f.advance f.counts)
  | some p =>
    (s.reachPupil f.position p f.request.session).setFlight
      (f.advance (f.counts.tally (p.sweepApplies f.request.session) (s.offersAbsence p)
        (s.proposal f.position f.request.session)))

/-- The flight has slots to visit. -/
def SweepFlight.walking (f : SweepFlight) : Bool := f.position < Config.rollSlots

/-- What to do with the sweep in flight. -/
def State.onFlight (s : State) (g : SweepFlight → State) : State :=
  match s.sweep.flight with
  | some f => g f
  | none => s

/-- A sweep is in flight and its walk is, or is not, at its end. -/
def Sweep.walking (w : Sweep) (more : Bool) : Bool :=
  match w.flight with
  | some f => f.walking == more
  | none => false

/-- SWEEP_VISIT (R125). -/
def execSweepVisit (s : State) : Out := event (fun s => s.sweep.walking true) (fun s => s.onFlight s.visit) s

/-! ### Completion (R53, R130) -/

/-- R53: a session that is CLOSING becomes CLOSED. -/
def RunningPlan.closeSwept (r : RunningPlan) (k : Session) : RunningPlan :=
  if r.session k = some .closing then r.withSession k .closed else r

/-- R130: the result of a sweep that completes now. The completion time is held as the clock's date and seconds, as R124 has
the dispatch time (DESIGN CHOICE, log 25). -/
def SweepFlight.result (f : SweepFlight) (now : Stamp) : SweepResult :=
  { request := f.request, dispatched := f.dispatched, counts := f.counts, completed := now }

/-- R130: the completion of a sweep, in the rule's order; a rollover that waits at stage 1 is judged again (R176). -/
def State.completeSweep (s : State) (f : SweepFlight) : State :=
  let closed := s.withPlan f.request.track ((s.plan f.request.track).closeSwept f.request.session)
  let kept := (closed.withSweep { closed.sweep with last := some (f.result s.now) }).raise .sweepDone
  (kept.withSweep ({ kept.sweep with flight := none }.dispatchOldest s.now)).judgeStage1

/-- SWEEP_COMPLETE (R130). -/
def execSweepComplete (s : State) : Out := event (fun s => s.sweep.walking false) (fun s => s.onFlight s.completeSweep) s

/-! ### SWEEP_READ (R132) -/

/-- R129: the five counts in a reply. -/
def encSweepCounts (c : SweepCounts) : Bytes :=
  u16 c.offsite ++ u16 c.book ++ u16 c.unexplained ++ u16 c.offers ++ u16 c.left

/-- R132: a request in a reply. -/
def encSweepRequest (r : SweepRequest) : Bytes := u8 r.track.val ++ encSession r.session

/-- R132: the sweep in flight in a reply. Its position is the count of slots visited, so between the visit of slot 2,399
and SWEEP_COMPLETE it is 2,400 (DESIGN CHOICE, log 22). -/
def encFlight (f : SweepFlight) : Bytes :=
  encSweepRequest f.request ++ encStamp f.dispatched ++ encFlag f.request.byStart ++ u16 f.position ++
    encSweepCounts f.counts

/-- R130, R132, R188: the last sweep result in a reply. The completion time travels as a date and a time of day (DESIGN
CHOICE, log 25). -/
def encResult (r : SweepResult) : Bytes :=
  encSweepRequest r.request ++ encStamp r.dispatched ++ encFlag r.request.byStart ++ encSweepCounts r.counts ++
    encStamp r.completed

/-- R132: SWEEP_READ at the Sweep Engine. The number of requests queued stands once, as the count that R188 puts before
the list of them (DESIGN CHOICE, log 6). -/
def serveSweepRead (s : State) : Served :=
  answer s (okReply (encOption encFlight s.sweep.flight ++ encList encSweepRequest s.sweep.queue ++
    encOption encResult s.sweep.last))

/-- SWEEP_READ (R132). -/
def execSweepRead (s : State) : Out := request 0x58#8 serveSweepRead s

end Sys2Proof.Machine
end

