-- ==== Sys2Proof/Machine/Bells.lean ====
section
/-! DEFINITION. The Bell Sequencer: stored plans, running plans, firing, clock steps and the changes of a running day
(R40 to R67), and the meanings of its commands. -/

namespace Sys2Proof.Machine

/-! ### Stored plans (R41 to R44) -/

/-- R41: the kind and session of an entry of a frame. -/
def entryKindOf (kind session : Byte) : Option EntryKind :=
  if kind = 0#8 then some .plain
  else if kind = 1#8 then (sessionOf session).map EntryKind.sessionOpen
  else if kind = 2#8 then (sessionOf session).map EntryKind.registerClose
  else if kind = 3#8 then some .dayClose
  else none

/-- R41: an entry of a frame, none where it fails on its own fields. -/
def planEntryOf (i : PlanItem) : Option PlanEntry :=
  if timeOk i.time then
    match entryKindOf i.kind i.session, sixteenOf i.pattern with
    | some k, some p => some { time := timeSeconds i.time, kind := k, zones := i.zones, pattern := p }
    | _, _ => none
  else none

/-- An earlier entry has the kind given. -/
def hasKind (earlier : List PlanEntry) (k : EntryKind) : Bool := earlier.any fun e => e.kind = k

/-- R42, case 4: an earlier SESSION_OPEN for the session has a time below this one. -/
def opensBefore (earlier : List PlanEntry) (k : Session) (time : Nat) : Bool :=
  earlier.any fun e => e.kind = .sessionOpen k && e.time ≠ time

/-- R42: an entry stands against the entries before it, in frame order. -/
def followsOk (earlier : List PlanEntry) (e : PlanEntry) : Bool :=
  (match earlier.getLast? with
    | some b => b.time ≤ e.time
    | none => true) &&
  !hasKind earlier .dayClose &&
  match e.kind with
  | .plain => true
  | .dayClose => true
  | .sessionOpen k => !hasKind earlier (.sessionOpen k) && (k = .s1 || hasKind earlier (.sessionOpen .s1))
  | .registerClose k =>
    !hasKind earlier (.registerClose k) && opensBefore earlier k e.time &&
      (k = .s2 || !hasKind earlier (.sessionOpen .s2))

/-- R41, R42: the entries of a frame checked one by one after those already accepted, or the number of the first that
fails. -/
def checkEntries (accepted : List PlanEntry) (n : Nat) : List PlanItem → Except Nat (List PlanEntry)
  | [] => .ok accepted
  | i :: rest =>
    match planEntryOf i with
    | none => .error n
    | some e => if followsOk accepted e then checkEntries (accepted ++ [e]) (n + 1) rest else .error n

/-- R41 to R43: PLAN_LOAD at the Bell Sequencer. -/
def servePlanLoad (plan : Byte) (entries : List PlanItem) (s : State) : Served :=
  unlessRolling s <|
    match sixteenOf plan with
    | none => answer s (badField 0)
    | some n =>
      if Config.planEntries < entries.length then answer s (badField 41)
      else
        match checkEntries [] 1 entries with
        | .error i => answer s (badField i)
        | .ok l => (s.withPlans (s.plans.set n l), okReply (u8 l.length))

/-- PLAN_LOAD (R41). -/
def execPlanLoad (plan : Byte) (entries : List PlanItem) (s : State) : Out :=
  request 0x30#8 (servePlanLoad plan entries) s

/-- R44: PLAN_READ at the Bell Sequencer. -/
def servePlanRead (plan : Byte) (s : State) : Served :=
  match sixteenOf plan with
  | none => answer s (badField 0)
  | some n => if s.plans[n].isEmpty then answer s noSuch else answer s (okReply (encList encPlanEntry s.plans[n]))

/-- PLAN_READ (R44). -/
def execPlanRead (plan : Byte) (s : State) : Out := request 0x31#8 (servePlanRead plan) s

/-! ### Building a running plan (R49) -/

/-- R49: a stored entry copied into a running plan. -/
def PlanEntry.copied (e : PlanEntry) : RunningEntry := { entry := e, delay := 0, state := .pending, inserted := false }

/-- R49: the first state of a session that the entries have, none where they lack it. -/
def firstSession (entries : List PlanEntry) (k : Session) : Option SessionState :=
  if hasKind entries (.sessionOpen k) then some .notOpen else none

/-- R49: the running plan built from a selection; an empty plan counts as no plan. -/
def buildPlan (plans : Vector (List PlanEntry) 16) : Option (Fin 16) → RunningPlan
  | none => noPlan
  | some n =>
    if plans[n].isEmpty then noPlan
    else
      { plan := some n, entries := plans[n].map PlanEntry.copied, day := .active
        session1 := firstSession plans[n] .s1, session2 := firstSession plans[n] .s2, silence := false }

/-! ### Firing (R51 to R55) -/

/-- R51: the indexes of the entries that fire on a count-up: PENDING entries in index order up to the first that is
not due; entries that have fired are passed over. -/
def dueFrom (now n : Nat) : List RunningEntry → List Nat
  | [] => []
  | e :: l =>
    if e.state = .pending then (if e.effective ≤ (now : Int) then n :: dueFrom now (n + 1) l else [])
    else dueFrom now (n + 1) l

/-- R51: the entries of a running plan that fire on a count-up. -/
def RunningPlan.due (r : RunningPlan) (now : Nat) : List Nat := dueFrom now 0 r.entries

/-- R54: the lateness of a firing. -/
def RunningEntry.lateBy (e : RunningEntry) (now : Nat) : Nat := ((now : Int) - e.effective).toNat

/-- R54: an entry fires late but within the catch-up window. -/
def RunningEntry.inBand (e : RunningEntry) (now window : Nat) : Bool := 1 ≤ e.lateBy now && e.lateBy now ≤ window

/-- R54: the highest index, among those that fire, that lies in the catch-up band. -/
def RunningPlan.bandLast (r : RunningPlan) (now window : Nat) (fired : List Nat) : Option Nat :=
  fired.reverse.find? fun i =>
    match r.entries[i]? with
    | some e => e.inBand now window
    | none => false

/-- R54: whether a fired entry rings or passes. -/
def RunningPlan.decide (r : RunningPlan) (now window : Nat) (fired : List Nat) (i : Nat) (e : RunningEntry) :
    FireState :=
  if r.silence then .passed
  else if e.lateBy now = 0 then .rung
  else if e.inBand now window then (if r.bandLast now window fired = some i then .rung else .passed)
  else .passed

/-- R54: an entry of a track that is not silenced passes beyond the catch-up window. -/
def RunningPlan.beyondWindow (r : RunningPlan) (now window : Nat) (fired : List Nat) : Bool :=
  !r.silence && fired.any fun i =>
    match r.entries[i]? with
    | some e => window < e.lateBy now && e.lateBy now ≠ 0
    | none => false

/-- R54: the running entries after a firing, from index `n` on. -/
def RunningPlan.firedEntries (r : RunningPlan) (now window : Nat) (fired : List Nat) (n : Nat) :
    List RunningEntry → List RunningEntry
  | [] => []
  | e :: l =>
    (if fired.contains n then { e with state := r.decide now window fired n e } else e) ::
      r.firedEntries now window fired (n + 1) l

/-- R52: what the action of a fired entry does to its running plan. -/
def RunningPlan.act (r : RunningPlan) : EntryKind → RunningPlan
  | .plain => r
  | .sessionOpen k => r.withSession k .opened
  | .registerClose k => r.withSession k .closing
  | .dayClose => { r with day := .ended }

/-- R52: a fired REGISTER_CLOSE places a sweep request. -/
def State.requestSweep (s : State) (t : Track) : EntryKind → State
  | .registerClose k => s.placeSweep { track := t, session := k, byStart := false }
  | _ => s

/-- R51, R52: the actions of the fired entries, in index order. -/
def State.takeActions (s : State) (t : Track) : List RunningEntry → State
  | [] => s
  | e :: l => ((s.withPlan t ((s.plan t).act e.entry.kind)).requestSweep t e.entry.kind).takeActions t l

/-- R55: the ring requests of the fired entries that are RUNG, in index order. -/
def State.sendRings (s : State) (t : Track) : List Nat → State
  | [] => s
  | i :: l =>
    match (s.plan t).entries[i]? with
    | some e =>
      if e.state = .rung then (s.ringRequest e.entry.zones e.entry.pattern (.track t i)).sendRings t l
      else s.sendRings t l
    | none => s.sendRings t l

/-- The entries at a list of indexes. -/
def entriesAt (l : List RunningEntry) (is : List Nat) : List RunningEntry := is.filterMap fun i => l[i]?

/-- R190: RING is raised, where the condition holds. -/
def State.raiseRingIf (s : State) (c : Bool) : State := if c then s.raise .ring else s

/-- R51 to R55: one track's due entries fire on a count-up. -/
def State.fireTrack (s : State) (now : Nat) (t : Track) : State :=
  let r := s.plan t
  let fired := r.due now
  let acted := s.takeActions t (entriesAt r.entries fired)
  let settled := acted.withPlan t
    { acted.plan t with entries := r.firedEntries now s.params.catchUp fired 0 r.entries }
  (settled.raiseRingIf (r.beyondWindow now s.params.catchUp fired)).sendRings t fired

/-- R51: the Bell Sequencer fires on a count-up, the tracks in order. -/
def State.fireAll (s : State) (now : Nat) : State := allTracks.foldl (fun a t => a.fireTrack now t) s

/-- R50, R51: the Bell Sequencer acts on the oldest count-up handed to it; it fires nothing while a rollover is in
flight or the clock is UNSET. -/
def State.fireOldest (s : State) : State :=
  match s.countUps.bells with
  | c :: rest =>
    let t := s.withCountUps { s.countUps with bells := rest }
    if t.clock.isSet && !t.rolling then t.fireAll c.seconds else t
  | [] => s

/-- ENTRY_FIRE (R51). -/
def execEntryFire (s : State) : Out := event (fun s => !s.countUps.bells.isEmpty) State.fireOldest s

/-! ### Clock steps (R56 to R58) -/

/-- R58: a PLAIN entry that has fired and lies after the new time is re-armed. -/
def RunningEntry.rearm (e : RunningEntry) (now : Nat) : RunningEntry :=
  if e.entry.kind = .plain && e.state ≠ .pending && (now : Int) < e.effective then { e with state := .pending } else e

/-- R58: one track's entries after a backward step beyond the re-ring limit. -/
def State.rearmTrack (s : State) (now : Nat) (t : Track) : State :=
  s.withPlan t { s.plan t with entries := (s.plan t).entries.map fun e => e.rearm now }

/-- R56 to R58: the Bell Sequencer takes a clock step; only a backward one beyond the re-ring limit changes a plan. -/
def State.clockStep (s : State) (old new : Nat) : State :=
  if new + s.params.reRing < old then allTracks.foldl (fun a t => a.rearmTrack new t) s else s

/-! ### TRACK_DELAY (R59, R60) -/

/-- R59: a PENDING entry with a shift in trial. -/
def RunningEntry.shifted (e : RunningEntry) (shift : Int) : RunningEntry :=
  if e.state = .pending then { e with delay := e.delay + shift } else e

/-- R59: the whole running plan in trial, shifted from an index on. -/
def shiftFrom (l : List RunningEntry) (first : Nat) (shift : Int) : List RunningEntry :=
  l.take first ++ (l.drop first).map fun e => e.shifted shift

/-- R59: an entry in trial is within the ranges of delay and effective time. -/
def RunningEntry.inRange (e : RunningEntry) : Bool :=
  -3600 ≤ e.delay && e.delay ≤ 7200 && 0 ≤ e.effective && e.effective ≤ 86399

/-- R46: effective times are non-decreasing in index order. -/
def inOrder : List RunningEntry → Bool
  | [] => true
  | [_] => true
  | e :: f :: l => e.effective ≤ f.effective && inOrder (f :: l)

/-- R59, check 6: the trial passes. -/
def trialOk (l : List RunningEntry) (first : Nat) : Bool :=
  ((l.drop first).all fun e => e.state ≠ .pending || e.inRange) && inOrder l

/-- R60: the PENDING entries from an index on. -/
def pendingFrom (l : List RunningEntry) (first : Nat) : List RunningEntry :=
  (l.drop first).filter fun e => e.state = .pending

/-- R60: the effective times of the first and last shifted entries. -/
def encShifted (l : List RunningEntry) : Bytes :=
  encTime (((l.head?).map RunningEntry.effectiveSeconds).getD 0) ++
    encTime (((l.getLast?).map RunningEntry.effectiveSeconds).getD 0)

/-- R59, R60: TRACK_DELAY at the Bell Sequencer. -/
def serveTrackDelay (track first minutes : Byte) (s : State) : Served :=
  unlessRolling s <|
    match trackOf track with
    | none => answer s (badField 0)
    | some t =>
      if minutes.toInt < -60 || 120 < minutes.toInt then answer s (badField 2)
      else if (s.plan t).day = .ended then answer s stateReply
      else
        match (s.plan t).entries[first.toNat]? with
        | none => answer s noSuch
        | some e =>
          if e.state ≠ .pending then answer s stateReply
          else
            let trial := shiftFrom (s.plan t).entries first.toNat (minutes.toInt * 60)
            if trialOk trial first.toNat then
              (s.withPlan t { s.plan t with entries := trial }, okReply (encShifted (pendingFrom trial first.toNat)))
            else answer s (badField 2)

/-- TRACK_DELAY (R59). -/
def execTrackDelay (track first minutes : Byte) (s : State) : Out :=
  request 0x32#8 (serveTrackDelay track first minutes) s

/-! ### TRACK_INSERT (R61, R62) -/

/-- R61: an entry of the list that is in range and lies after now. -/
def insertOk (now : Nat) (i : InsertItem) : Option RunningEntry :=
  match sixteenOf i.pattern with
  | some p =>
    if timeOk i.time && now < timeSeconds i.time then
      some { entry := { time := timeSeconds i.time, kind := .plain, zones := i.zones, pattern := p }, delay := 0,
             state := .pending, inserted := true }
    else none
  | none => none

/-- R61: the entries of the list, or the number of the first bad one. -/
def checkInserts (now n : Nat) : List InsertItem → Except Nat (List RunningEntry)
  | [] => .ok []
  | i :: rest =>
    match insertOk now i with
    | none => .error n
    | some e =>
      match checkInserts now (n + 1) rest with
      | .error k => .error k
      | .ok l => .ok (e :: l)

/-- R62: the place of a new entry: after the last entry whose effective time is not greater than its own. -/
def insertPlace (l : List RunningEntry) (e : RunningEntry) : Nat :=
  l.length - (l.reverse.takeWhile fun f => e.effective < f.effective).length

/-- R62: a new entry in its place. -/
def insertAt (l : List RunningEntry) (n : Nat) (e : RunningEntry) : List RunningEntry := l.take n ++ e :: l.drop n

/-- R62: the new entries placed one at a time, with the index that each has in the end (log 11). -/
def insertAll (l : List RunningEntry) (places : List Nat) : List RunningEntry → List RunningEntry × List Nat
  | [] => (l, places)
  | e :: rest =>
    let n := insertPlace l e
    insertAll (insertAt l n e) ((places.map fun p => if n ≤ p then p + 1 else p) ++ [n]) rest

/-- R61, R62: TRACK_INSERT at the Bell Sequencer. -/
def serveTrackInsert (track : Byte) (entries : List InsertItem) (s : State) : Served :=
  unlessRolling s <|
    match trackOf track with
    | none => answer s (badField 0)
    | some t =>
      if entries.isEmpty || Config.insertedEntries < entries.length then answer s (badField 0)
      else if (s.plan t).day = .ended then answer s stateReply
      else
        match checkInserts s.clock.seconds 1 entries with
        | .error n => answer s (badField n)
        | .ok new =>
          if Config.runningEntries < (s.plan t).entries.length + new.length ||
              Config.insertedEntries < (s.plan t).insertedCount + new.length then answer s fullReply
          else
            let r := insertAll (s.plan t).entries [] new
            (s.withPlan t { s.plan t with entries := r.1 }, okReply (encList u8 r.2))

/-- TRACK_INSERT (R61). -/
def execTrackInsert (track : Byte) (entries : List InsertItem) (s : State) : Out :=
  request 0x33#8 (serveTrackInsert track entries) s

/-! ### TRACK_SILENCE and TRACK_READ (R63, R64) -/

/-- R63: TRACK_SILENCE at the Bell Sequencer. -/
def serveTrackSilence (track value : Byte) (s : State) : Served :=
  unlessRolling s <|
    match trackOf track, flagOf value with
    | none, _ => answer s (badField 0)
    | some _, none => answer s (badField 1)
    | some t, some v => (s.withPlan t { s.plan t with silence := v }, okReply [])

/-- TRACK_SILENCE (R63). -/
def execTrackSilence (track value : Byte) (s : State) : Out := request 0x34#8 (serveTrackSilence track value) s

/-- R48: a day state in a reply. -/
def encDayState : DayState → Bytes
  | .active => [0#8]
  | .ended => [1#8]

/-- R47: a session state in a reply. -/
def encSessionState : SessionState → Bytes
  | .notOpen => [0#8]
  | .opened => [1#8]
  | .closing => [2#8]
  | .closed => [3#8]

/-- R45: a firing state in a reply. -/
def encFireState : FireState → Bytes
  | .pending => [0#8]
  | .rung => [1#8]
  | .passed => [2#8]

/-- R188: a delay, two bytes in two's complement. -/
def encDelay (d : Int) : Bytes := u16 (BitVec.ofInt 16 d).toNat

/-- R64: a running entry in a reply. -/
def encRunningEntry (e : RunningEntry) : Bytes :=
  encPlanEntry e.entry ++ encDelay e.delay ++ encTime e.effectiveSeconds ++ encFireState e.state ++ encFlag e.inserted

/-- R64: TRACK_READ at the Bell Sequencer; the number of entries stands once as its own field and once before the list,
and a cursor at the end is absent, by the presence byte 0 (DESIGN CHOICE, log 6). -/
def serveTrackRead (track : Byte) (s : State) : Served :=
  match trackOf track with
  | none => answer s (badField 0)
  | some t =>
    let r := s.plan t
    answer s (okReply (encOption (fun n : Fin 16 => u8 n.val) r.plan ++ u8 r.entries.length ++ encOption u8 r.cursor ++
      u8 r.insertedCount ++ encDayState r.day ++ encOption encSessionState r.session1 ++
      encOption encSessionState r.session2 ++ encFlag r.silence ++ encList encRunningEntry r.entries))

/-- TRACK_READ (R64). -/
def execTrackRead (track : Byte) (s : State) : Out := request 0x35#8 (serveTrackRead track) s

end Sys2Proof.Machine
end

