-- ==== Sys2Proof/Machine/Roll.lean ====
section
/-! DEFINITION. The meanings of the Roll Store's requests (R3, R7, R8, R13 to R15, R21). -/

namespace Sys2Proof.Machine

/-- R3: ROLL_WRITE at the Roll Store. -/
def serveRollWrite (start : BitVec 16) (records : List RollItem) (s : State) : Served :=
  unlessRolling s <|
    if records.isEmpty || Config.rollRun < records.length then answer s (badField 0)
    else
      match s.writeRecords start.toNat 1 records with
      | (t, none) => (t, okReply (u8 records.length))
      | (t, some n) => (t, badField n)

/-- ROLL_WRITE (R3 to R6). -/
def execRollWrite (start : BitVec 16) (records : List RollItem) (s : State) : Out :=
  request 0x20#8 (serveRollWrite start records) s

/-- R7: a pupil is removed: notices, book entries, off-site entry, card index, slot, in this order. -/
def State.removePupil (s : State) (i : Nat) (p : Pupil) : State :=
  ((((s.withNotices (s.notices.removePupil i)).withBook (s.book.filter fun e => e.pupil ≠ i)).withArrivals
    { s.arrivals with offsite := s.arrivals.offsite.filter fun e => e.pupil ≠ i }).withCards
    (keyDrop p.card s.cards)).withRoll (keyDrop i s.roll)

/-- R7: ROLL_REMOVE at the Roll Store. -/
def serveRollRemove (index : BitVec 16) (s : State) : Served :=
  unlessRolling s <|
    if Config.rollSlots ≤ index.toNat then answer s (badField 0)
    else
      match s.pupilAt index.toNat with
      | none => answer s noSuch
      | some p => (s.removePupil index.toNat p, okReply [])

/-- ROLL_REMOVE (R7). -/
def execRollRemove (index : BitVec 16) (s : State) : Out := request 0x21#8 (serveRollRemove index) s

/-- R8: the slots from a start index onward, as many as asked for. -/
def State.rollRun (s : State) (start : Nat) : Nat → List (Option Pupil)
  | 0 => []
  | n + 1 => s.pupilAt start :: s.rollRun (start + 1) n

/-- R8: ROLL_READ at the Roll Store. -/
def serveRollRead (start : BitVec 16) (count : Byte) (s : State) : Served :=
  if Config.rollSlots ≤ start.toNat then answer s (badField 0)
  else if count.toNat = 0 || Config.rollRun < count.toNat then answer s (badField 1)
  else if start.toNat + count.toNat ≤ Config.rollSlots then
    answer s (okReply (encList (encOption encPupil) (s.rollRun start.toNat count.toNat)))
  else
    answer s (clampedReply (encList (encOption encPupil) (s.rollRun start.toNat (Config.rollSlots - start.toNat))))

/-- ROLL_READ (R8). -/
def execRollRead (start : BitVec 16) (count : Byte) (s : State) : Out := request 0x22#8 (serveRollRead start count) s

/-- R21: a mark loses its charge. -/
def Mark.uncharged (m : Mark) : Mark := { m with charge := 0, counted := false }

/-- R21: a pupil's tally is cleared. -/
def Pupil.termCleared (p : Pupil) : Pupil :=
  { p with mark1 := p.mark1.uncharged, mark2 := p.mark2.uncharged, lateCount := 0, lateMinutes := 0 }

/-- R21, R178: the tallies of every occupied slot are cleared. -/
def State.termClear (s : State) : State := s.withRoll (s.roll.map fun e => (e.1, e.2.termCleared))

/-- R21: TERM_CLEAR at the Roll Store. -/
def serveTermClear (s : State) : Served := unlessRolling s (s.termClear, okReply [])

/-- TERM_CLEAR (R21). -/
def execTermClear (s : State) : Out := request 0x23#8 serveTermClear s

/-! ### MARK_SET (R13 to R15) -/

/-- R13: the two sources of MARK_SET. -/
inductive MarkAuthor where
  | teacher
  | office
  deriving DecidableEq, Repr

/-- R188: the source of MARK_SET, coded by the list of R9. -/
def authorOf (b : Byte) : Option MarkAuthor :=
  if b = 2#8 then some .teacher else if b = 3#8 then some .office else none

/-- R14, R15: the values a source may write. -/
def MarkAuthor.mayWrite : MarkAuthor → MarkValue → Bool
  | .teacher, v => v = .present || v = .late
  | .office, v => v ≠ .notRequired

/-- R13: a MARK_SET whose fields passed their checks. -/
structure MarkRequest where
  session : Session
  author : MarkAuthor
  value : MarkValue
  minutes : Nat
  reason : Option Reason
  explained : Bool
  deriving DecidableEq, Repr

/-- R13: the fields 1 to 6 of MARK_SET, or the number of the first bad one. -/
def markFields (session source value minutes reason explained : Byte) : Except Nat MarkRequest :=
  match sessionOf session with
  | none => .error 1
  | some k =>
    match authorOf source with
    | none => .error 2
    | some a =>
      match markValueOf value with
      | none => .error 3
      | some v =>
        if !a.mayWrite v then .error 3
        else if v.isLate && minutes = 0#8 then .error 4
        else if v = .authorised && (reasonOf reason).isNone then .error 5
        else if a = .office && (flagOf explained).isNone then .error 6
        else
          .ok { session := k, author := a, value := v
                minutes := if v.isLate then minutes.toNat else 0
                reason := if v = .authorised then reasonOf reason else none
                explained := v.isLate && a = .office && flagOf explained = some true }

/-- R14, R15: the state check of the source. -/
def State.markAllowed (s : State) (p : Pupil) (m : MarkRequest) : Bool :=
  match m.author with
  | .teacher =>
    (s.plan p.track).day = .active && (s.plan p.track).session m.session = some .opened &&
      ((p.mark m.session).value = .none || (p.mark m.session).source = .teacher)
  | .office =>
    (p.mark m.session).value ≠ .notRequired &&
      (m.value ≠ .none || (s.plan p.track).session m.session = some .notOpen ||
        (s.plan p.track).session m.session = some .opened)

/-- R14, R15, R19: what MARK_SET writes; an office NONE is a cleared mark record with the delivered flag carried over. -/
def MarkRequest.write (m : MarkRequest) : MarkWrite :=
  { value := m.value
    source := if m.value = .none then .none else match m.author with
      | .teacher => .teacher
      | .office => .office
    minutes := m.minutes, reason := m.reason, explained := m.explained
    charged := m.value.isLate && !m.explained }

/-- R13: MARK_SET at the Roll Store. -/
def serveMarkSet (index : BitVec 16) (session source value minutes reason explained : Byte) (s : State) : Served :=
  unlessRolling s <|
    if Config.rollSlots ≤ index.toNat then answer s (badField 0)
    else
      match markFields session source value minutes reason explained with
      | .error n => answer s (badField n)
      | .ok m =>
        match s.pupilAt index.toNat with
        | none => answer s noSuch
        | some p =>
          if s.markAllowed p m then
            (s.replaceMark index.toNat p m.session m.write, okReply (encMark (p.written m.session m.write)))
          else answer s stateReply

/-- MARK_SET (R13). -/
def execMarkSet (index : BitVec 16) (session source value minutes reason explained : Byte) (s : State) : Out :=
  request 0x24#8 (serveMarkSet index session source value minutes reason explained) s

end Sys2Proof.Machine
end

