-- ==== Sys2Proof/Machine/Days.lean ====
section
/-! DEFINITION. The Day Controller: the calendar, day selection, the rollover and day summaries (R171 to R181), and
the meanings of its requests and of the rollover's stages. -/

namespace Sys2Proof.Machine

/-! ### Day selection (R172) -/

/-- R172: the weekday table's entry for a date and a track. -/
def Days.byWeekday (d : Days) (date : Nat) (t : Track) : Option (Fin 16) := d.weekdays[weekdayOf date][t]

/-- R172: the selection the calendar makes for a date and a track. -/
def Days.select (d : Days) (date : Nat) (t : Track) : Option (Fin 16) :=
  match keyGet date d.exceptions with
  | some x =>
    if x.closed then none
    else
      match x.selections[t] with
      | .plan n => some n
      | .none => none
      | .byWeekday => d.byWeekday date t
  | none => d.byWeekday date t

/-- R172: the selection for a date and a track; an empty plan counts as none. -/
def State.selection (s : State) (date : Nat) (t : Track) : Option (Fin 16) :=
  match s.days.select date t with
  | some n => if s.plans[n].isEmpty then none else some n
  | none => none

/-- R179: the six selections for a date. -/
def State.selections (s : State) (date : Nat) : Vector (Option (Fin 16)) 6 :=
  #v[s.selection date 0, s.selection date 1, s.selection date 2, s.selection date 3, s.selection date 4,
    s.selection date 5]

/-! ### Starting a rollover (R175) -/

/-- R175: the record of a rollover to a new date, as it is created. -/
def State.newRollover (s : State) (new : Nat) : Rollover :=
  { old := s.days.today, new := new, stage := 1, position := 0, termStart := none, selections := none }

/-- R175, R176: a rollover to a new date is created, and judged at that moment. -/
def State.startRollover (s : State) (new : Nat) : State := (s.setRollover (some (s.newRollover new))).judgeStage1

/-- R175: a date change handed by a count-up. -/
def State.dateChange (s : State) (new : Nat) : State :=
  match s.days.rollover with
  | none => s.startRollover new
  | some r => if r.stage = 1 then s.setRollover (some { r with new := new }) else s

/-- R175: a date is one of the days a rollover crosses. -/
def Rollover.crosses (r : Rollover) (date : Nat) : Bool :=
  if r.old < r.new then r.old < date && date ≤ r.new else date = r.new

/-- What to do with the rollover in flight. -/
def State.onRollover (s : State) (f : Rollover → State) : State :=
  match s.days.rollover with
  | some r => f r
  | none => s

/-- A rollover is in flight at a stage. -/
def State.atStage (s : State) (n : Nat) : Bool :=
  match s.days.rollover with
  | some r => r.stage = n
  | none => false

/-! ### Day summaries (R180, R181) -/

/-- R180: how many of a track's pupils hold a mark value for a session. -/
def State.markCount (s : State) (t : Track) (k : Session) (v : MarkValue) : Nat :=
  (s.roll.filter fun e => e.2.track = t && (e.2.mark k).value = v).length

/-- R180: the counts of the seven values. -/
def State.markCounts (s : State) (t : Track) (k : Session) : Vector Nat 7 :=
  #v[s.markCount t k .none, s.markCount t k .present, s.markCount t k .late, s.markCount t k .lateClosed,
    s.markCount t k .authorised, s.markCount t k .unexplained, s.markCount t k .notRequired]

/-- R180: one track's part of a summary. -/
def State.trackSummary (s : State) (t : Track) : TrackSummary :=
  { plan := (s.plan t).plan, pupils := (s.roll.filter fun e => e.2.track = t).length
    session1 := s.markCounts t .s1, session2 := s.markCounts t .s2 }

/-- R180: late minutes charged, the sum of the charge field over all marks. -/
def chargeSum : Roll → Nat
  | [] => 0
  | (_, p) :: l => p.mark1.charge + p.mark2.charge + chargeSum l

/-- R96, R180: the sum of the terminals' taps discarded. -/
def Desk.discardedSum (d : Desk) : Nat :=
  d.terminals[0].discarded + d.terminals[1].discarded + d.terminals[2].discarded + d.terminals[3].discarded

/-- R149: an entry with neither flag set. -/
def BookEntry.unused (e : BookEntry) : Bool := !e.used && !e.contradicted

/-- R180: a day summary of the state as it stands, with the book counts over the entries given. -/
def State.summary (s : State) (date : Nat) (closedBy : Option (Nat × Bool)) (counters : NoticeCounters)
    (entries : List BookEntry) : DaySummary :=
  { date := date, closedBy := closedBy
    tracks := #v[s.trackSummary 0, s.trackSummary 1, s.trackSummary 2, s.trackSummary 3, s.trackSummary 4,
      s.trackSummary 5]
    lateMinutes := chargeSum s.roll, notices := counters, tapsDiscarded := s.desk.discardedSum
    overwrites := s.arrivals.overwrites, degraded := s.ring.degradedToday, notReturned := s.arrivals.offsite.length
    bookUsed := (entries.filter fun e => e.used).length
    bookContradicted := (entries.filter fun e => e.contradicted).length
    bookUnused := (entries.filter fun e => e.unused).length }

/-- R181: the LIVE summary. -/
def State.liveSummary (s : State) : DaySummary :=
  s.summary s.days.today none s.notices.counters (s.book.filter fun e => e.date = s.days.today)

/-! ### The stages (R176 to R179) -/

/-- R177: the term-start finding: an exception on a day the rollover crosses has its term-start flag set. -/
def State.termStartIn (s : State) (r : Rollover) : Bool :=
  s.days.exceptions.any fun x => r.crosses x.1 && x.2.termStart

/-- R169: the Notice Queue expires every notice, its counters still standing. -/
def NoticeQueue.expireAll (q : NoticeQueue) : NoticeQueue :=
  { q with list := [] }.countMany .expired q.list.length

/-- R149: the entries a rollover to a date removes. -/
def State.expiringEntries (s : State) (new : Nat) : List BookEntry := s.book.filter fun e => !inHorizon new e.date

/-- R96: a terminal's day counters at 0. -/
def Terminal.newDay (v : Terminal) : Terminal := { v with taken := 0, discarded := 0, misses := 0 }

/-- R96: the Desk Line Controller clears the terminals' day counters. -/
def Desk.newDay (d : Desk) : Desk :=
  { d with terminals := #v[d.terminals[0].newDay, d.terminals[1].newDay, d.terminals[2].newDay, d.terminals[3].newDay] }

/-- R177: the closed summary of the day a rollover closes. -/
def State.closingSummary (s : State) (r : Rollover) : DaySummary :=
  s.summary r.old (some (r.new, s.termStartIn r)) s.notices.expireAll.counters (s.expiringEntries r.new)

/-- R177: stage 2 closes the old day. -/
def State.closeDay (s : State) (r : Rollover) : State :=
  let expired := s.withNotices { s.notices.expireAll with counters := zeroCounters }
  let booked := expired.withBook (s.book.filter fun e => inHorizon r.new e.date)
  let emptied := booked.withArrivals { offsite := [], log := [], nextSequence := 0, overwrites := 0 }
  let rung := emptied.withRing { s.ring with degradedToday := 0 }
  let desked := rung.withDesk s.desk.newDay
  desked.withDays { s.days with
    closed := some (s.closingSummary r)
    exceptions := s.days.exceptions.filter fun x => r.new ≤ x.1
    rollover := some { r with stage := 3, termStart := some (s.termStartIn r) } }

/-- ROLLOVER_STAGE_2 (R177): the one step of stage 2. -/
def execRolloverStage2 (s : State) : Out := event (fun s => s.atStage 2) (fun s => s.onRollover s.closeDay) s

/-- R178: stage 3 clears the tallies where a term starts; then stage 4 begins with the six selections (R179). -/
def State.clearTerm (s : State) (r : Rollover) : State :=
  (if r.termStart = some true then s.termClear else s).setRollover
    (some { r with stage := 4, selections := some (s.selections r.new) })

/-- ROLLOVER_STAGE_3 (R178). -/
def execRolloverStage3 (s : State) : Out := event (fun s => s.atStage 3) (fun s => s.onRollover s.clearTerm) s

/-- R179: the selection kept for a track. -/
def Rollover.selected (r : Rollover) (t : Track) : Option (Fin 16) :=
  match r.selections with
  | some v => v[t]
  | none => none

/-- R179: a track has a session on the new day. -/
def State.willHave (s : State) (r : Rollover) (t : Track) (k : Session) : Bool :=
  match r.selected t with
  | some n => hasKind s.plans[n] (.sessionOpen k)
  | none => false

/-- R18: a pupil's marks are set for the new day. -/
def State.newDayPupil (s : State) (r : Rollover) (p : Pupil) : Pupil :=
  { p with mark1 := freshMark (s.willHave r p.track .s1), mark2 := freshMark (s.willHave r p.track .s2) }

/-- R18, R179: the marks of a slot are set for the new day. -/
def State.newDaySlot (s : State) (r : Rollover) : State :=
  match s.pupilAt r.position with
  | some p => s.putPupil r.position (s.newDayPupil r p)
  | none => s

/-- R179: the walk moves on by one slot; past the last one the stage becomes 5. -/
def Rollover.advance (r : Rollover) : Rollover :=
  { r with position := r.position + 1, stage := if r.position + 1 < Config.rollSlots then r.stage else 5 }

/-- ROLLOVER_WALK_SLOT (R179). -/
def execRolloverWalkSlot (s : State) : Out :=
  event (fun s => s.atStage 4) (fun s => s.onRollover fun r => (s.newDaySlot r).setRollover (some r.advance)) s

/-- R49: stage 5 builds every track's running plan from the kept selections. -/
def State.buildPlans (s : State) (r : Rollover) : State :=
  (s.withRunning #v[buildPlan s.plans (r.selected 0), buildPlan s.plans (r.selected 1),
    buildPlan s.plans (r.selected 2), buildPlan s.plans (r.selected 3), buildPlan s.plans (r.selected 4),
    buildPlan s.plans (r.selected 5)]).setRollover (some { r with stage := 6 })

/-- ROLLOVER_STAGE_5 (R49). -/
def execRolloverStage5 (s : State) : Out := event (fun s => s.atStage 5) (fun s => s.onRollover s.buildPlans) s

/-- R179: stage 6 completes the rollover; a further one starts at once if the clock's date has moved on. -/
def State.completeRollover (s : State) (r : Rollover) : State :=
  let done := (s.withDays { s.days with today := r.new, rollover := none }).raise .dayRolled
  if s.clock.date = r.new then done else done.startRollover s.clock.date

/-- ROLLOVER_COMPLETE (R179). -/
def execRolloverComplete (s : State) : Out := event (fun s => s.atStage 6) (fun s => s.onRollover s.completeRollover) s

/-! ### The calendar's requests (R173, R174) -/

/-- The numbers of a list read by a test, or the number (from 1) of the first item that fails it. -/
def readItems {α β : Type} (f : α → Option β) (n : Nat) : List α → Except Nat (List β)
  | [] => .ok []
  | a :: l =>
    match f a with
    | none => .error n
    | some b =>
      match readItems f (n + 1) l with
      | .error k => .error k
      | .ok bs => .ok (b :: bs)

/-- Six items of a list from a place on. -/
def sixFrom {α : Type} (l : List α) (d : α) (n : Nat) : Vector α 6 :=
  #v[l.getD n d, l.getD (n + 1) d, l.getD (n + 2) d, l.getD (n + 3) d, l.getD (n + 4) d, l.getD (n + 5) d]

/-- R173: the weekday table of 42 selections, weekday by weekday. -/
def weekdayTable (l : List (Option (Fin 16))) : Vector (Vector (Option (Fin 16)) 6) 7 :=
  #v[sixFrom l none 0, sixFrom l none 6, sixFrom l none 12, sixFrom l none 18, sixFrom l none 24, sixFrom l none 30,
    sixFrom l none 36]

/-- R173: the six selections of an exception, none where one is out of range. -/
def selectionsOf (v : Vector Byte 6) : Option (Vector Selection 6) :=
  match selectionOf v[0], selectionOf v[1], selectionOf v[2], selectionOf v[3], selectionOf v[4], selectionOf v[5] with
  | some a, some b, some c, some d, some e, some f => some #v[a, b, c, d, e, f]
  | _, _, _, _, _, _ => none

/-- R173: an exception of a frame, none where a field of it is bad. -/
def exceptionOf (today : Nat) (x : ExceptionItem) : Option (Nat × CalendarException) :=
  match flagOf x.closed, flagOf x.termStart, selectionsOf x.selections with
  | some c, some t, some v =>
    if dateOk x.date && today ≤ dateDay x.date then
      some (dateDay x.date, { closed := c, termStart := t, selections := v })
    else none
  | _, _, _ => none

/-- R173: a date of a frame, none where it is no date. -/
def removalOf (d : DateField) : Option Nat := if dateOk d then some (dateDay d) else none

/-- R173: items read in frame order, none of which may repeat the date of an earlier one. -/
def readDated {α β : Type} (f : α → Option β) (date : β → Nat) (seen : List Nat) (n : Nat) :
    List α → Except Nat (List β)
  | [] => .ok []
  | a :: l =>
    match f a with
    | none => .error n
    | some b =>
      if seen.contains (date b) then .error n
      else
        match readDated f date (date b :: seen) (n + 1) l with
        | .error k => .error k
        | .ok bs => .ok (b :: bs)

/-- R173: a count is in the range of EXCEPTIONS and REMOVE. -/
def calendarCountOk (n : Nat) : Bool := 1 ≤ n && n ≤ Config.calendarRun

/-- R173: the dates of a frame for which no exception is held. -/
def Days.newDates (d : Days) (l : List (Nat × CalendarException)) : Nat :=
  (l.filter fun x => (keyGet x.1 d.exceptions).isNone).length

/-- R173: exceptions are added, or replace those of their dates. -/
def putExceptions (held : List (Nat × CalendarException)) :
    List (Nat × CalendarException) → List (Nat × CalendarException)
  | [] => held
  | x :: l => putExceptions (keyPut x.1 x.2 held) l

/-- R173: the exceptions held after the dates given are removed. -/
def dropExceptions (held : List (Nat × CalendarException)) (dates : List Nat) : List (Nat × CalendarException) :=
  held.filter fun x => !dates.contains x.1

/-- Replace the exceptions. -/
def State.setExceptions (s : State) (l : List (Nat × CalendarException)) : State :=
  s.withDays { s.days with exceptions := l }

/-- R173: CALENDAR_LOAD, form WEEKDAY. -/
def serveWeekdays (selections : List Byte) (s : State) : Served :=
  if selections.length ≠ 42 then answer s (badField 0)
  else
    match readItems weekdaySelectionOf 1 selections with
    | .error n => answer s (badField n)
    | .ok l => (s.withDays { s.days with weekdays := weekdayTable l }, okReply (u8 s.days.exceptions.length))

/-- R173: CALENDAR_LOAD, form EXCEPTIONS. -/
def serveExceptions (items : List ExceptionItem) (s : State) : Served :=
  if !calendarCountOk items.length then answer s (badField 0)
  else
    match readDated (exceptionOf s.days.today) (fun x => x.1) [] 1 items with
    | .error n => answer s (badField n)
    | .ok l =>
      if Config.exceptions < s.days.exceptions.length + s.days.newDates l then answer s fullReply
      else
        let held := putExceptions s.days.exceptions l
        (s.setExceptions held, okReply (u8 held.length))

/-- R173: CALENDAR_LOAD, form REMOVE. -/
def serveRemovals (dates : List DateField) (s : State) : Served :=
  if !calendarCountOk dates.length then answer s (badField 0)
  else
    match readDated removalOf id [] 1 dates with
    | .error n => answer s (badField n)
    | .ok l =>
      let held := dropExceptions s.days.exceptions l
      (s.setExceptions held, okReply (u8 held.length ++ u8 (s.days.exceptions.length - held.length)))

/-- R173: CALENDAR_LOAD at the Day Controller. -/
def serveCalendarLoad (body : CalendarBody) (s : State) : Served :=
  unlessRolling s <|
    match body with
    | .weekday l => serveWeekdays l s
    | .exceptions l => serveExceptions l s
    | .remove l => serveRemovals l s
    | .other _ _ => answer s (badField 0)

/-- CALENDAR_LOAD (R173). -/
def execCalendarLoad (body : CalendarBody) (s : State) : Out := request 0x70#8 (serveCalendarLoad body) s

/-- R188: a selection of the weekday table in a reply. -/
def encWeekdaySelection : Option (Fin 16) → Bytes
  | some n => u8 n.val
  | none => [16#8]

/-- R188: a selection of an exception in a reply. -/
def encSelection : Selection → Bytes
  | .plan n => u8 n.val
  | .none => [16#8]
  | .byWeekday => [17#8]

/-- R174: exceptions in a reply, with their positions. -/
def encExceptionsFrom (n : Nat) : List (Nat × CalendarException) → Bytes
  | [] => []
  | x :: l =>
    u8 n ++ encDate x.1 ++ u8 (weekdayOf x.1).val ++ encFlag x.2.closed ++ encFlag x.2.termStart ++
      encAll encSelection x.2.selections.toList ++ encExceptionsFrom (n + 1) l

/-- R174: CALENDAR_READ, part EXCEPTIONS. -/
def serveExceptionsRead (position count : Byte) (s : State) : Served :=
  if 95 < position.toNat then answer s (badField 1)
  else if !calendarCountOk count.toNat then answer s (badField 2)
  else
    let l := (s.days.exceptions.drop position.toNat).take count.toNat
    answer s (okReply (u8 s.days.exceptions.length ++ u8 l.length ++ encExceptionsFrom position.toNat l))

/-- R174: CALENDAR_READ at the Day Controller. -/
def serveCalendarRead (part : CalendarPart) (s : State) : Served :=
  match part with
  | .weekday =>
    answer s (okReply (encAll (fun v => encAll encWeekdaySelection v.toList) s.days.weekdays.toList))
  | .exceptions position count => serveExceptionsRead position count s
  | .other _ _ => answer s (badField 0)

/-- CALENDAR_READ (R174). -/
def execCalendarRead (part : CalendarPart) (s : State) : Out := request 0x71#8 (serveCalendarRead part) s

/-! ### SUMMARY_READ (R181) -/

/-- R180: one track's part of a summary in a reply. -/
def encTrackSummary (t : TrackSummary) : Bytes :=
  encOption (fun n : Fin 16 => u8 n.val) t.plan ++ u16 t.pupils

/-- R180: the mark counts of one track in a reply. -/
def encTrackCounts (t : TrackSummary) : Bytes :=
  encAll u16 t.session1.toList ++ encAll u16 t.session2.toList

/-- R167: the seven day counters in a reply. -/
def encCounters (c : NoticeCounters) : Bytes :=
  u16 c.created ++ u16 c.delivered ++ u16 c.abandoned ++ u16 c.withdrawn ++ u16 c.expired ++ u16 c.evicted ++
    u16 c.dropped

/-- R180: the closing rollover in a reply. -/
def encClosedBy (c : Nat × Bool) : Bytes := encDate c.1 ++ encFlag c.2

/-- R180: a day summary in a reply, in the order of the rule's list. -/
def encSummary (d : DaySummary) : Bytes :=
  encDate d.date ++ u8 (weekdayOf d.date).val ++ encOption encClosedBy d.closedBy ++
    encAll encTrackSummary d.tracks.toList ++ encAll encTrackCounts d.tracks.toList ++ u24 d.lateMinutes ++
    encCounters d.notices ++ u24 d.tapsDiscarded ++ u16 d.overwrites ++ u16 d.degraded ++ u8 d.notReturned ++
    u16 d.bookUsed ++ u16 d.bookContradicted ++ u16 d.bookUnused

/-- R181: SUMMARY_READ at the Day Controller. -/
def serveSummaryRead (selector : Byte) (s : State) : Served :=
  if selector = 0#8 then answer s (okReply (encSummary s.liveSummary))
  else if selector = 1#8 then
    match s.days.closed with
    | some d => answer s (okReply (encSummary d))
    | none => answer s noSuch
  else answer s (badField 0)

/-- SUMMARY_READ (R181). -/
def execSummaryRead (selector : Byte) (s : State) : Out := request 0x72#8 (serveSummaryRead selector) s

end Sys2Proof.Machine
end

