-- ==== Sys2Proof/Machine/Clock.lean ====
section
/-! DEFINITION. The Calendar Clock: sub-ticks, count-ups, setting and trimming (R25 to R39), and the meanings of its
commands. -/

namespace Sys2Proof.Machine

/-! ### Count-ups (R26 to R29) -/

/-- R27: the clock one second later. -/
def Clock.counted (c : Clock) : Clock :=
  if c.seconds + 1 < Config.daySeconds then { c with seconds := c.seconds + 1 }
  else { c with seconds := 0, date := if c.date < Config.lastDay then c.date + 1 else 0 }

/-- R27: the next count-up advances the date. -/
def Clock.atMidnight (c : Clock) : Bool := Config.daySeconds ≤ c.seconds + 1

/-- R28: a count-up is handed to the Bell Sequencer, the Ring Unit and the Notice Queue, whose steps act on it. The
Bell Sequencer is handed nothing while the clock is UNSET or a rollover is in flight (R32, R50; log 3). -/
def State.handOn (s : State) : State :=
  s.withCountUps
    { bells := if s.clock.isSet && !s.rolling then s.countUps.bells ++ [s.now] else s.countUps.bells
      waits := s.countUps.waits ++ [s.now]
      releases := s.countUps.releases ++ [s.now]
      timeouts := s.countUps.timeouts ++ [s.now] }

/-- R28, R32: the Day Controller takes the date change of a count-up, while the clock is SET. -/
def State.takeDateChange (s : State) (carries : Bool) : State :=
  if carries && s.clock.isSet then s.dateChange s.clock.date else s

/-- R27, R28: a second is counted; while the blocks are stopped the clock alone sees it. -/
def State.countUp (s : State) : State :=
  let t := s.withClock s.clock.counted
  if t.blocksRun then (t.takeDateChange s.clock.atMidnight).handOn else t

/-- R26, R29, R38: a wrap that leaves the prescaler at a value: counted, or swallowed where a second is owed. -/
def State.wrapTo (s : State) (prescaler : Nat) : State :=
  if s.clock.held then s.withClock { s.clock with prescaler := prescaler, held := false }
  else (s.withClock { s.clock with prescaler := prescaler }).countUp

/-- R26: the next sub-tick wraps the prescaler. -/
def Clock.wraps (c : Clock) : Bool := Config.subTicks ≤ c.prescaler + 1

/-- SUB_TICK (R26), taken in every power state. -/
def execSubTick (s : State) : Out :=
  .next (if s.clock.wraps then s.wrapTo 0 else s.withClock { s.clock with prescaler := s.clock.prescaler + 1 })

/-- SECOND_COUNT_UP (R27, R29): the sub-tick that wraps the prescaler; with no wrap due nothing comes about
(DESIGN CHOICE, log 4). -/
def execSecondCountUp (s : State) : Out := .next (if s.clock.wraps then s.wrapTo 0 else s)

/-! ### CLOCK_READ (R33) -/

/-- R25: the clock state in a reply, SET before UNSET. -/
def encClockState (isSet : Bool) : Bytes := [if isSet then 0#8 else 1#8]

/-- R33: CLOCK_READ at the Calendar Clock. -/
def serveClockRead (s : State) : Served :=
  answer s (okReply (encDate s.clock.date ++ encTime s.clock.seconds ++ u8 (weekdayOf s.clock.date).val ++
    encClockState s.clock.isSet ++ u16 s.clock.prescaler ++ encFlag s.clock.held))

/-- CLOCK_READ (R33). -/
def execClockRead (s : State) : Out := request 0x10#8 serveClockRead s

/-! ### CLOCK_SET (R34 to R36) -/

/-- R34: the first of the fields 0 to 5 that fails. -/
def clockFieldBad (d : DateField) (t : TimeField) : Option Nat :=
  if !bcdOk d.year then some 0
  else if !bcdOk d.month || bcd d.month < 1 || 12 < bcd d.month then some 1
  else if !bcdOk d.day || bcd d.day < 1 then some 2
  else if !bcdOk t.hour || 23 < bcd t.hour then some 3
  else if !bcdOk t.minute || 59 < bcd t.minute then some 4
  else if !bcdOk t.second || 59 < bcd t.second then some 5
  else none

/-- R35: the day is above the last day of its month. -/
def dayClamps (d : DateField) : Bool := monthLength (bcd d.year) (bcd d.month) < bcd d.day

/-- R35: the day number applied, after any clamp. -/
def clampedDate (d : DateField) : Nat :=
  dayNumber (bcd d.year) (bcd d.month) (min (bcd d.day) (monthLength (bcd d.year) (bcd d.month)))

/-- R36: a set starts a rollover: the clock was UNSET, or shows another date. -/
def Clock.setStarts (c : Clock) (date : Nat) : Bool := !c.isSet || c.date ≠ date

/-- R36: the clock after a set. -/
def setClock (date seconds : Nat) : Clock :=
  { date := date, seconds := seconds, prescaler := 0, held := false, isSet := true }

/-- R36: a set is applied, and a date change or a clock step handed on. -/
def State.applySet (s : State) (date seconds : Nat) : State :=
  let t := s.withClock (setClock date seconds)
  if s.clock.setStarts date then t.startRollover date
  else if s.clock.seconds ≠ seconds then t.clockStep s.clock.seconds seconds
  else t

/-- R36: the fields of the reply to CLOCK_SET. -/
def encSet (c : Clock) (date seconds : Nat) : Bytes :=
  encDate date ++ encTime seconds ++ u8 (weekdayOf date).val ++ encFlag (c.setStarts date)

/-- R34 to R36: CLOCK_SET at the Calendar Clock. -/
def serveClockSet (date : DateField) (time : TimeField) (s : State) : Served :=
  unlessRolling s <|
    match clockFieldBad date time with
    | some n => answer s (badField n)
    | none =>
      (s.applySet (clampedDate date) (timeSeconds time),
        if dayClamps date then clampedReply (encSet s.clock (clampedDate date) (timeSeconds time))
        else okReply (encSet s.clock (clampedDate date) (timeSeconds time)))

/-- CLOCK_SET (R34). -/
def execClockSet (date : DateField) (time : TimeField) (s : State) : Out := request 0x11#8 (serveClockSet date time) s

/-! ### CLOCK_TRIM (R37, R38) -/

/-- R38: Q, the prescaler moved by the trim. -/
def Clock.trimmed (c : Clock) (trim : Int) : Int := (c.prescaler : Int) + trim

/-- R38: the trim applied, by the first case of the table that matches. -/
def State.applyTrim (s : State) (trim : Int) : State :=
  if 1024 ≤ s.clock.trimmed trim then s.wrapTo (s.clock.trimmed trim - 1024).toNat
  else if 0 ≤ s.clock.trimmed trim then s.withClock { s.clock with prescaler := (s.clock.trimmed trim).toNat }
  else if s.clock.held then s.withClock { s.clock with prescaler := 0 }
  else s.withClock { s.clock with prescaler := (s.clock.trimmed trim + 1024).toNat, held := true }

/-- R38: the last case: a second debt cannot be held. -/
def Clock.trimClamps (c : Clock) (trim : Int) : Bool := c.trimmed trim < 0 && c.held

/-- R38: the fields of the reply: the trim applied, then the prescaler and the flag after it. -/
def encTrim (applied : Int) (c : Clock) : Bytes :=
  [BitVec.ofInt 8 applied] ++ u16 c.prescaler ++ encFlag c.held

/-- R37, R38: CLOCK_TRIM at the Calendar Clock. -/
def serveClockTrim (trim : Byte) (s : State) : Served :=
  if !s.clock.isSet then answer s stateReply
  else
    (s.applyTrim trim.toInt,
      if s.clock.trimClamps trim.toInt then
        clampedReply (encTrim (-(s.clock.prescaler : Int)) (s.applyTrim trim.toInt).clock)
      else okReply (encTrim trim.toInt (s.applyTrim trim.toInt).clock))

/-- CLOCK_TRIM (R37). -/
def execClockTrim (trim : Byte) (s : State) : Out := request 0x12#8 (serveClockTrim trim) s

end Sys2Proof.Machine
end

