-- ==== Sys2Proof/Machine/Power.lean ====
section
/-! DEFINITION. Power states and starts (R66, R81, R98, R122, R137, R170, R182, R183, R195), and the meanings of the
power, reset and battery events. -/

namespace Sys2Proof.Machine

/-! ### Stopping (R67, R81, R98, R122, R182, R195) -/

/-- R81: every ring job ends and the job number counter returns to 0; what is retained stays. -/
def RingUnit.silenced (r : RingUnit) : RingUnit := { r with jobs := [], nextJob := 0 }

/-- R122: the sweep queue and the sweep in flight are lost; the last result stays. -/
def Sweep.emptied (w : Sweep) : Sweep := { w with queue := [], flight := none }

/-- R195: the link stops: a frame being received is lost, and a request in hand gets no reply. -/
def Link.stopped (l : Link) : Link := { l with receiver := .hunt, inHand := none, startRequested := false }

/-- Count-ups handed to a block and not yet acted on are lost as the blocks stop (DESIGN CHOICE, log 13). -/
def noCountUps : CountUps := { bells := [], waits := [], releases := [], timeouts := [] }

/-- R81, R98, R122, R182, R195: the link, the desk line, the rings and the sweeps stop. -/
def State.stopBlocks (s : State) : State :=
  ((((s.withLink s.link.stopped).stopDesk false).withRing s.ring.silenced).withSweep s.sweep.emptied).withCountUps
    noCountUps

/-- R182, R183: the controller enters RETAIN, and the clock's date and time are written as the last entry to it. With the
battery lost before, both supplies are lost now and the signature is not valid. -/
def State.enterRetain (s : State) : State :=
  s.stopBlocks.withPower
    { s.power with mains := false, startWaiting := false, signature := s.power.signature && s.power.battery,
                   record := { s.power.record with lastRetain := some s.now } }

/-- RETAIN_ENTRY (R182): MAINS_OK falls. -/
def execRetainEntry (s : State) : Out := .next (if s.power.mains then s.enterRetain else s)

/-- RESET_N_LOW (R183): RESET_N falls. In FULL the blocks stop; in RETAIN they are stopped already. -/
def execResetNLow (s : State) : Out :=
  .next
    (if s.power.resetLow then s
    else if s.power.mains then s.stopBlocks.withPower { s.power with resetLow := true }
    else s.withPower { s.power with resetLow := true })

/-! ### Starts (R183) -/

/-- R183: a cold start; the commands that wait in the queue are the sender's, not the block's, and the battery is taken as
present again (DESIGN CHOICE, log 14). -/
def State.coldStart (s : State) : State := { State.reset with pending := s.pending }

/-- R195: the link begins again, with START pending. -/
def freshLink : Link :=
  { receiver := .hunt, inHand := none, startRequested := false, raised := EventClass.start.bit, mask := 0#8,
    broken := 0, overlapped := 0, bad := 0 }

/-- R183: the start record a start writes. -/
def StartRecord.written (r : StartRecord) (cause : StartCause) (now : Stamp) : StartRecord :=
  { r with cause := cause, time := now }

/-- R66: the sweep request of a session found CLOSING at a start. -/
def State.requeue (s : State) (t : Track) (k : Session) : State :=
  if (s.plan t).session k = some .closing then s.placeSweep { track := t, session := k, byStart := true } else s

/-- R66, R137: a sweep request for each CLOSING session, track by track, session 1 before session 2. -/
def State.requeueAll (s : State) : State := allTracks.foldl (fun a t => (a.requeue t .s1).requeue t .s2) s

/-- R170: a HANDED notice that is superseded. -/
def Notice.superseded (n : Notice) : Bool := n.isHanded && n.mode ≠ .none

/-- R170: a HANDED notice becomes READY at a start. -/
def Notice.startReady (n : Notice) : Notice := if n.isHanded then { n with state := .ready } else n

/-- R170: the notices at a start: superseded ones are withdrawn, other HANDED ones become READY. -/
def NoticeQueue.restarted (q : NoticeQueue) : NoticeQueue :=
  { q with
    list := (q.list.filter fun n : Notice => !n.superseded).map Notice.startReady }.countMany .withdrawn
      (q.list.filter Notice.superseded).length

/-- R176, R183: the Day Controller acts on the rollover record at a start; one at stage 1 takes the clock's date and is
judged, after the blocks have placed their sweep requests. -/
def State.startDays (s : State) : State :=
  match s.days.rollover with
  | some r => if r.stage = 1 then (s.setRollover (some { r with new := s.clock.date })).judgeStage1 else s
  | none => if s.clock.isSet && s.clock.date ≠ s.days.today then s.startRollover s.clock.date else s

/-- R183: a start that finds the signature valid: the start record, each block's start action, the Day Controller. -/
def State.warmStart (s : State) (cause : StartCause) : State :=
  let recorded := s.withPower
    { s.power with mains := true, resetLow := false, startWaiting := false,
                   record := s.power.record.written cause s.now }
  let linked := recorded.withLink freshLink
  let desked := linked.stopDesk true
  let silenced := desked.withRing s.ring.silenced
  let swept := (silenced.withSweep s.sweep.emptied).requeueAll
  let noticed := swept.withNotices s.notices.restarted
  (noticed.withCountUps noCountUps).startDays

/-- R183: a start; the first thing it does is to check the signature. -/
def State.start (s : State) (cause : StartCause) : State :=
  if s.power.signature then s.warmStart cause else s.coldStart

/-- POWER_RETURN (R182, R183): MAINS_OK rises; with RESET_N low the start waits for it to rise. -/
def execPowerReturn (s : State) : Out :=
  .next
    (if s.power.mains then s
    else if s.power.resetLow then s.withPower { s.power with mains := true, startWaiting := true }
    else s.start .powerReturn)

/-- R182, R183: the cause of the start that RESET_N's rise makes. -/
def Power.resetCause (p : Power) : StartCause := if p.startWaiting then .powerReturn else .pinReset

/-- PIN_RESET (R183): RESET_N rises. In RETAIN no start is made until MAINS_OK rises. -/
def execPinReset (s : State) : Out :=
  .next
    (if !s.power.resetLow then s
    else if s.power.mains then s.start s.power.resetCause
    else s.withPower { s.power with resetLow := false })

/-- REQUESTED_START (R183): the start that follows the reply to PART_RESET. -/
def execRequestedStart (s : State) : Out := event (fun s => s.link.startRequested) (fun s => s.start .requested) s

/-- BATTERY_LOSS (R183): the battery fails. With the main supply lost too the signature is not valid from then on; with
the main supply present the memory holds until that fails (log 14). -/
def execBatteryLoss (s : State) : Out :=
  .next (s.withPower { s.power with battery := false, signature := s.power.signature && s.power.mains })

end Sys2Proof.Machine
end

