-- ==== Sys2Proof/Machine/Link.lean ====
section
/-! DEFINITION. The Link Interface: its own requests, the configuration parameters and the events of the link (R183
to R195), and the meanings of its commands. -/

namespace Sys2Proof.Machine

/-! ### STATUS, EVENTS_CLEAR, EVENTS_MASK (R191, R192) -/

/-- R171, R183: the cause of a start in a reply. -/
def encStartCause : StartCause → Bytes
  | .cold => [0#8]
  | .powerReturn => [1#8]
  | .pinReset => [2#8]
  | .requested => [3#8]

/-- R171: the start record in a reply. -/
def encStartRecord (r : StartRecord) : Bytes := encStartCause r.cause ++ encStamp r.time ++ encOption encStamp r.lastRetain

/-- R192: the power state in a reply, FULL whenever one can be sent. -/
def encPowerFull : Bytes := [0#8]

/-- R192: how many notices are in a state. -/
def NoticeQueue.inState (q : NoticeQueue) (p : Notice → Bool) : Nat := (q.list.filter p).length

/-- R192: STATUS at the Link Interface. -/
def serveStatus (s : State) : Served :=
  answer s (okReply (encStartRecord s.power.record ++ encClockState s.clock.isSet ++ encPowerFull ++ [s.pendingSet] ++
    [s.link.mask] ++ encOption (fun r : Rollover => u8 r.stage) s.days.rollover ++ u8 s.sweep.queue.length ++
    encFlag s.sweep.flight.isSome ++ u8 s.desk.taps.length ++ u8 (s.notices.inState Notice.isHeld) ++
    u8 (s.notices.inState Notice.isReady) ++ u8 (s.notices.inState Notice.isHanded) ++ u16 s.link.broken ++
    u16 s.link.overlapped ++ u16 s.link.bad))

/-- STATUS (R192). -/
def execStatus (s : State) : Out := request 0x01#8 serveStatus s

/-- R191: the classes named leave the pending set, but for those their own conditions govern. -/
def State.clearEvents (s : State) (set : Byte) : State :=
  s.withLink { s.link with raised := s.link.raised &&& ~~~(set &&& clearable) }

/-- R191: EVENTS_CLEAR at the Link Interface. -/
def serveEventsClear (set : Byte) (s : State) : Served :=
  (s.clearEvents set, okReply [(s.clearEvents set).pendingSet, s.link.mask])

/-- EVENTS_CLEAR (R191). -/
def execEventsClear (set : Byte) (s : State) : Out := request 0x02#8 (serveEventsClear set) s

/-- R191: EVENTS_MASK at the Link Interface. -/
def serveEventsMask (set : Byte) (s : State) : Served :=
  (s.withLink { s.link with mask := set }, okReply [s.link.mask, set, s.pendingSet])

/-- EVENTS_MASK (R191). -/
def execEventsMask (set : Byte) (s : State) : Out := request 0x03#8 (serveEventsMask set) s

/-! ### Configuration parameters (R193, R194) -/

/-- R193: the parameters by id, with the index of those held once per track or per zone. -/
inductive Param where
  | grace (track : Track)
  | settle (track : Track)
  | lateNotices (track : Track)
  | absenceNotices (track : Track)
  | patternEvery
  | catchUp
  | reRing
  | chimeWait
  | zoneRank (zone : Fin 8)
  | handedTimeout
  | attemptLimit
  | enabled
  deriving DecidableEq, Repr

/-- R193: the parameter held once per track at an index, or BAD_FIELD with field 1. -/
def trackParam (p : Track → Param) (index : Byte) : Except Nat Param :=
  match trackOf index with
  | some t => .ok (p t)
  | none => .error 1

/-- R193: a parameter held once has index 0. -/
def soleParam (p : Param) (index : Byte) : Except Nat Param := if index = 0#8 then .ok p else .error 1

/-- R193: a zone. -/
def zoneOf (b : Byte) : Option (Fin 8) := if h : b.toNat < 8 then some ⟨b.toNat, h⟩ else none

/-- R193: checks 1 and 2: the parameter an id and index name, or the number of the bad field. -/
def paramOf (id index : Byte) : Except Nat Param :=
  if id = 1#8 then trackParam .grace index
  else if id = 2#8 then trackParam .settle index
  else if id = 3#8 then trackParam .lateNotices index
  else if id = 4#8 then trackParam .absenceNotices index
  else if id = 5#8 then soleParam .patternEvery index
  else if id = 6#8 then soleParam .catchUp index
  else if id = 7#8 then soleParam .reRing index
  else if id = 8#8 then soleParam .chimeWait index
  else if id = 9#8 then
    match zoneOf index with
    | some z => .ok (.zoneRank z)
    | none => .error 1
  else if id = 10#8 then soleParam .handedTimeout index
  else if id = 11#8 then soleParam .attemptLimit index
  else if id = 12#8 then soleParam .enabled index
  else .error 0

/-- R193: the least value of a parameter. -/
def Param.least : Param → Nat
  | .chimeWait => 5
  | .handedTimeout => 1
  | .attemptLimit => 1
  | _ => 0

/-- R193: the greatest value of a parameter. -/
def Param.greatest : Param → Nat
  | .grace _ => 900
  | .settle _ => 90
  | .lateNotices _ => 1
  | .absenceNotices _ => 1
  | .patternEvery => 50
  | .catchUp => 300
  | .reRing => 1800
  | .chimeWait => 120
  | .zoneRank _ => 7
  | .handedTimeout => 60
  | .attemptLimit => 5
  | .enabled => 15

/-- An on/off value as the link carries it. -/
def flagNat (b : Bool) : Nat := if b then 1 else 0

/-- R193: the value of a parameter. -/
def Params.get (p : Params) : Param → Nat
  | .grace t => p.grace[t]
  | .settle t => p.settle[t]
  | .lateNotices t => flagNat p.lateNotices[t]
  | .absenceNotices t => flagNat p.absenceNotices[t]
  | .patternEvery => p.patternEvery
  | .catchUp => p.catchUp
  | .reRing => p.reRing
  | .chimeWait => p.chimeWait
  | .zoneRank z => p.zoneRank[z]
  | .handedTimeout => p.handedTimeout
  | .attemptLimit => p.attemptLimit
  | .enabled => p.enabled.toNat

/-- R193: give a parameter a value. -/
def Params.put (p : Params) (n : Nat) : Param → Params
  | .grace t => { p with grace := p.grace.set t n }
  | .settle t => { p with settle := p.settle.set t n }
  | .lateNotices t => { p with lateNotices := p.lateNotices.set t (n == 1) }
  | .absenceNotices t => { p with absenceNotices := p.absenceNotices.set t (n == 1) }
  | .patternEvery => { p with patternEvery := n }
  | .catchUp => { p with catchUp := n }
  | .reRing => { p with reRing := n }
  | .chimeWait => { p with chimeWait := n }
  | .zoneRank z => { p with zoneRank := p.zoneRank.set z n }
  | .handedTimeout => { p with handedTimeout := n }
  | .attemptLimit => { p with attemptLimit := n }
  | .enabled => { p with enabled := BitVec.ofNat 4 n }

/-- R88, R193: a value is stored; the enabled set alone changes something at once. -/
def State.setParam (s : State) (q : Param) (n : Nat) : State :=
  if q = .enabled then s.setEnabled (BitVec.ofNat 4 n) else s.withParams (s.params.put n q)

/-- R193: a value in a parameter's range. -/
def Param.admits (q : Param) (n : Nat) : Bool := q.least ≤ n && n ≤ q.greatest

/-- R193: CONFIG_WRITE at the Link Interface. -/
def serveConfigWrite (id index : Byte) (value : BitVec 16) (s : State) : Served :=
  match paramOf id index with
  | .error n => answer s (badField n)
  | .ok q =>
    if q.admits value.toNat then
      (s.setParam q value.toNat, okReply (u16 (s.params.get q) ++ u16 value.toNat))
    else answer s (badField 2)

/-- CONFIG_WRITE (R193). -/
def execConfigWrite (id index : Byte) (value : BitVec 16) (s : State) : Out :=
  request 0x04#8 (serveConfigWrite id index value) s

/-- R194: CONFIG_READ at the Link Interface. -/
def serveConfigRead (id index : Byte) (s : State) : Served :=
  match paramOf id index with
  | .error n => answer s (badField n)
  | .ok q =>
    answer s (okReply (u16 (s.params.get q) ++ u16 q.least ++ u16 q.greatest ++ u16 (defaultParams.get q)))

/-- CONFIG_READ (R194). -/
def execConfigRead (id index : Byte) (s : State) : Out := request 0x05#8 (serveConfigRead id index) s

/-! ### PART_RESET (R183) -/

/-- PART_RESET (R183): answered OK at any time; the start follows the whole reply. -/
def execPartReset (s : State) : Out := .next (takeFrame 0x86#8 true (fun s => answer s (okReply [])) s)

/-! ### Events of the link (R184 to R186) -/

/-- R185: the frame being sent on TXD, none while TXD is high. -/
def State.txd (s : State) : Option Bytes := s.link.inHand.map fun r => frame r.kind r.payload

/-- R184: the levels of TXD, bit by bit, over the sending of a reply; none while TXD idles high. -/
def State.txdBits (s : State) : Option (List Bool) := s.txd.map fun l => l.flatMap linkBits

/-- R184, R186: a frame with a fault is counted as bad and answered LINK_ERROR with the kind byte received. -/
def serveBadFrame (kind : Byte) (s : State) : Served :=
  (s.withLink { s.link with bad := bump s.link.bad }, [7#8, kind])

/-- LINK_ERROR (R186): a frame ends whose CRC is wrong, or whose length its kind does not allow. -/
def execLinkError (kind : Byte) (s : State) : Out := .next (takeFrame 0xFF#8 false (serveBadFrame kind) s)

/-- UNKNOWN_KIND (R186): a sound frame ends whose kind names no request. -/
def execUnknownKind (kind : Byte) (s : State) : Out :=
  .next (takeFrame (kind ||| 0x80#8) false (fun s => answer s [8#8]) s)

/-- LENGTH_OVER_LIMIT (R185): a length above 1,040 ends a frame at its second length byte. -/
def execLengthOverLimit (s : State) : Out := .next (takeFrame 0xFF#8 false (serveBadFrame 0#8) s)

/-- R195: an event of the link, which stands still while the link is stopped. -/
def linkEvent (due : State → Bool) (act : State → State) (s : State) : Out :=
  .next (if s.linkUp && due s then act s else s)

/-- R184: a frame is being taken in. -/
def Link.inFrame (l : Link) : Bool := l.receiver != .hunt

/-- BROKEN_FRAME (R184, R186): the frame being taken in breaks, overlapped or not. -/
def execBrokenFrame (s : State) : Out :=
  linkEvent (fun s => s.link.inFrame)
    (fun s => s.withLink { s.link with receiver := .hunt, broken := bump s.link.broken }) s

/-- OVERLAPPED_FRAME (R186): a frame ends that began while a request was in hand. -/
def execOverlappedFrame (s : State) : Out := linkEvent (fun s => s.link.overlaps) State.countOverlapped s

/-- R186, R195: the last byte of a reply has left; the reply to PART_RESET stops the link for its start. -/
def Link.replyEnded (l : Link) (r : Reply) : Link :=
  if r.thenStart then { l with inHand := none, startRequested := true, receiver := .hunt } else { l with inHand := none }

/-- REPLY_END (R186). -/
def execReplyEnd (s : State) : Out :=
  match s.link.inHand with
  | some r => linkEvent (fun _ => true) (fun s => s.withLink (s.link.replyEnded r)) s
  | none => .next s

/-- SYNC_BYTE (R184, R186): in HUNT a frame begins, overlapped where a request is in hand. -/
def execSyncByte (s : State) : Out :=
  linkEvent (fun s => s.link.receiver = .hunt)
    (fun s => s.withLink { s.link with receiver := .inFrame s.link.inHand.isSome }) s

end Sys2Proof.Machine
end

