-- ==== Sys2Proof/Machine/Notices.lean ====
section
/-! DEFINITION. The Notice Queue's requests and what it does on a count-up (R152, R153, R156, R157, R159 to R163,
R168), and the meanings of its commands. -/

namespace Sys2Proof.Machine

/-! ### Count-ups (R156, R163) -/

/-- R156: a HELD notice whose release time is not above the seconds of a count-up becomes READY. -/
def Notice.release (n : Notice) (seconds : Nat) : Notice :=
  match n.state with
  | .held r => if r ≤ seconds then { n with state := .ready } else n
  | _ => n

/-- R156: the queue after a release. -/
def NoticeQueue.release (q : NoticeQueue) (seconds : Nat) : NoticeQueue :=
  { q with list := q.list.map fun n => n.release seconds }

/-- R156: the Notice Queue releases on the oldest count-up handed to it. -/
def State.releaseOldest (s : State) : State :=
  match s.countUps.releases with
  | c :: rest =>
    (s.withCountUps { s.countUps with releases := rest }).withNotices (s.notices.release c.seconds)
  | [] => s

/-- NOTICE_RELEASE (R156). -/
def execNoticeRelease (s : State) : Out := event (fun s => !s.countUps.releases.isEmpty) State.releaseOldest s

/-- R163: a count-up raises the seconds handed of a HANDED notice. -/
def Notice.countHanded (n : Notice) : Notice :=
  match n.state with
  | .handed t k m => { n with state := .handed t (k + 1) m }
  | _ => n

/-- R163: the seconds handed of a HANDED notice have reached the timeout. -/
def Notice.timedOut (n : Notice) (timeout : Nat) : Bool :=
  match n.state with
  | .handed _ k _ => timeout * 60 ≤ k
  | _ => false

/-- R163: notices time out one after another. -/
def NoticeQueue.failAll (q : NoticeQueue) (limit : Nat) : List Notice → NoticeQueue
  | [] => q
  | n :: l => (q.fail limit n).failAll limit l

/-- R163: a count-up raises the seconds handed, and the notices that reach the timeout fail, oldest first. -/
def NoticeQueue.timeouts (q : NoticeQueue) (timeout limit : Nat) : NoticeQueue :=
  let counted := q.list.map Notice.countHanded
  { q with list := counted }.failAll limit (counted.filter fun n => n.timedOut timeout)

/-- R163: the Notice Queue counts timeouts on the oldest count-up handed to it. -/
def State.timeoutOldest (s : State) : State :=
  match s.countUps.timeouts with
  | _ :: rest =>
    (s.withCountUps { s.countUps with timeouts := rest }).withNotices
      (s.notices.timeouts s.params.handedTimeout s.params.attemptLimit)
  | [] => s

/-- HANDED_TIMEOUT (R163). -/
def execHandedTimeout (s : State) : Out := event (fun s => !s.countUps.timeouts.isEmpty) State.timeoutOldest s

/-! ### NOTICE_TAKE (R152, R159) -/

/-- R152: the kinds in their rank, by class and then within class A. -/
def rankedKinds (order : Fin 6) : List Nat := (classOrder order).flatMap NoticeClass.kinds

/-- R152: the oldest READY notice of the first kind that has one. -/
def firstReady (l : List Notice) : List Nat → Option Notice
  | [] => none
  | k :: ks =>
    match l.find? fun n => n.isReady && n.kind.index = k with
    | some n => some n
    | none => firstReady l ks

/-- R159: the reasons for handing out nothing, in the rule's order. -/
inductive TakeReason where
  | hold
  | noneReady
  | handedLimit
  deriving DecidableEq, Repr

/-- R159: what NOTICE_TAKE hands out, or why it hands out nothing. -/
def NoticeQueue.choose (q : NoticeQueue) : Except TakeReason Notice :=
  if q.hold then .error .hold
  else
    match firstReady q.list (rankedKinds q.order) with
    | none => .error .noneReady
    | some n => if Config.handedNotices ≤ q.inState Notice.isHanded then .error .handedLimit else .ok n

/-- R159: a notice as it is handed out. -/
def Notice.handOut (n : Notice) (now : Stamp) : Notice := { n with state := .handed now 0 .none }

/-- A handle in a reply. -/
def encHandle (n : Notice) : Bytes := u8 n.slot ++ u16 n.creation

/-- R150: the kind of a notice in a reply. -/
def encNoticeKind (k : NoticeKind) : Bytes := u8 k.index

/-- R150: the minutes of a LATE notice. -/
def NoticeKind.minutes : NoticeKind → Option Nat
  | .late _ m _ => some m
  | _ => none

/-- R150: the verdict of a LATE notice. -/
def NoticeKind.verdict : NoticeKind → Option VerdictCode
  | .late _ _ closed => some (if closed then .lateClosed else .late)
  | _ => none

/-- R150: the late count of a PATTERN notice. -/
def NoticeKind.lateCount : NoticeKind → Option Nat
  | .pattern n => some n
  | _ => none

/-- R159: the notice in the reply to NOTICE_TAKE. -/
def encTaken (n : Notice) (now : Stamp) : Bytes :=
  encHandle n ++ encNoticeKind n.kind ++ u16 n.pupil ++ u24 n.number ++ encDate n.date ++
    encOption encSession n.kind.session ++ encOption u8 n.kind.minutes ++
    encOption (fun v : VerdictCode => [v.code]) n.kind.verdict ++ encOption u8 n.kind.lateCount ++ u8 n.attempts ++
    encStamp now

/-- R159: a reason in the reply to NOTICE_TAKE. -/
def encTakeReason : TakeReason → Bytes
  | .hold => [0#8]
  | .noneReady => [1#8]
  | .handedLimit => [2#8]

/-- R159: NOTICE_TAKE at the Notice Queue. -/
def serveNoticeTake (s : State) : Served :=
  unlessRolling s <|
    match s.notices.choose with
    | .error r => answer s (okReply (0#8 :: encTakeReason r))
    | .ok n => (s.withNotices (s.notices.replace (n.handOut s.now)), okReply (1#8 :: encTaken n s.now))

/-- NOTICE_TAKE (R159). -/
def execNoticeTake (s : State) : Out := request 0x68#8 serveNoticeTake s

/-! ### NOTICE_OUTCOME (R160 to R162, R165) -/

/-- R160: the outcomes. -/
inductive Delivery where
  | delivered
  | failed
  deriving DecidableEq, Repr

/-- R160, R188: an outcome. -/
def deliveryOf (b : Byte) : Option Delivery :=
  if b = 0#8 then some .delivered else if b = 1#8 then some .failed else none

/-- R160: the notice a handle names. -/
def NoticeQueue.named (q : NoticeQueue) (slot creation : Nat) : Option Notice :=
  q.list.find? fun n => n.slot = slot && n.creation = creation

/-- The notice in a slot. -/
def NoticeQueue.inSlot (q : NoticeQueue) (slot : Nat) : Option Notice := q.list.find? fun n => n.slot = slot

/-- R160: an outcome is applied; the second part is the ARRIVED notice it created. -/
def State.applyOutcome (s : State) (n : Notice) : Delivery → State × Option Notice
  | .delivered => s.deliver n
  | .failed => (if n.isHanded then s.withNotices (s.notices.fail s.params.attemptLimit n) else s, none)

/-- R160, R167: the way a notice left by an outcome, in the order of the counters; none where it stayed. -/
def State.leftBy (s : State) (n : Notice) : Delivery → Option DayCount
  | .delivered => some .delivered
  | .failed =>
    if !n.isHanded then none
    else if n.mode ≠ .none then some .withdrawn
    else if s.params.attemptLimit ≤ n.attempts + 1 then some .abandoned
    else none

/-- R160: the way a notice left in a reply: delivered, abandoned or withdrawn (log 6). -/
def encLeft : DayCount → Bytes
  | .abandoned => [1#8]
  | .withdrawn => [2#8]
  | _ => [0#8]

/-- R150: the state of a notice in a reply. -/
def encNoticeState : NoticeState → Bytes
  | .held _ => [0#8]
  | .ready => [1#8]
  | .handed _ _ _ => [2#8]

/-- R150: a supersede mode in a reply. -/
def encMode : Supersede → Bytes
  | .none => [0#8]
  | .withArrival => [1#8]
  | .silent => [2#8]

/-- R160: the state, attempts and supersede mode of a notice that stayed. -/
def encStayed (n : Notice) : Bytes := encNoticeState n.state ++ u8 n.attempts ++ encMode n.mode

/-- R160: the reply to an outcome that was applied. -/
def outcomeReply (left : Option DayCount) (stayed created : Option Notice) : Bytes :=
  okReply (encOption encLeft left ++ encOption encStayed stayed ++ encOption encHandle created)

/-- R160: the notice after an outcome that left it in the queue. -/
def State.stayedAfter (t : State) (n : Notice) (left : Option DayCount) : Option Notice :=
  if left.isSome then none else t.notices.inSlot n.slot

/-- R160: NOTICE_OUTCOME at the Notice Queue. -/
def serveNoticeOutcome (slot : Byte) (creation : BitVec 16) (outcome : Byte) (s : State) : Served :=
  unlessRolling s <|
    if Config.notices ≤ slot.toNat then answer s (badField 0)
    else
      match deliveryOf outcome with
      | none => answer s (badField 2)
      | some o =>
        match s.notices.named slot.toNat creation.toNat with
        | none => answer s noSuch
        | some n =>
          if n.isHeld then answer s stateReply
          else
            ((s.applyOutcome n o).1,
              outcomeReply (s.leftBy n o) ((s.applyOutcome n o).1.stayedAfter n (s.leftBy n o)) (s.applyOutcome n o).2)

/-- NOTICE_OUTCOME (R160). -/
def execNoticeOutcome (slot : Byte) (creation : BitVec 16) (outcome : Byte) (s : State) : Out :=
  request 0x69#8 (serveNoticeOutcome slot creation outcome) s

/-! ### NOTICE_HOLD, NOTICE_ORDER, NOTICE_COUNTS (R153, R157, R168) -/

/-- R157: NOTICE_HOLD at the Notice Queue. -/
def serveNoticeHold (value : Byte) (s : State) : Served :=
  match flagOf value with
  | none => answer s (badField 0)
  | some v =>
    (s.withNotices { s.notices with hold := v },
      okReply (encFlag s.notices.hold ++ u8 (s.notices.inState Notice.isReady)))

/-- NOTICE_HOLD (R157). -/
def execNoticeHold (value : Byte) (s : State) : Out := request 0x6A#8 (serveNoticeHold value) s

/-- R151: a class order by its number. -/
def orderOf (b : Byte) : Option (Fin 6) := if h : b.toNat < 6 then some ⟨b.toNat, h⟩ else none

/-- R153: NOTICE_ORDER at the Notice Queue. -/
def serveNoticeOrder (order : Byte) (s : State) : Served :=
  match orderOf order with
  | none => answer s (badField 0)
  | some o => (s.withNotices { s.notices with order := o }, okReply (u8 s.notices.order.val))

/-- NOTICE_ORDER (R153). -/
def execNoticeOrder (order : Byte) (s : State) : Out := request 0x6B#8 (serveNoticeOrder order) s

/-- R168: how many notices are of a kind, by its place in the list of R150. -/
def NoticeQueue.ofKind (q : NoticeQueue) (k : Nat) : Nat := q.inState fun n => n.kind.index = k

/-- R168: NOTICE_COUNTS at the Notice Queue. -/
def serveNoticeCounts (s : State) : Served :=
  let q := s.notices
  answer s (okReply (u8 q.list.length ++ u8 (q.inState Notice.isHeld) ++ u8 (q.inState Notice.isReady) ++
    u8 (q.inState Notice.isHanded) ++ u8 (q.ofKind 0) ++ u8 (q.ofKind 1) ++ u8 (q.ofKind 2) ++ u8 (q.ofKind 3) ++
    u8 (q.inState Notice.superseded) ++ encFlag q.hold ++ u8 q.order.val ++ u8 s.params.handedTimeout ++
    u8 s.params.attemptLimit ++ u16 q.nextCreation ++ encCounters q.counters))

/-- NOTICE_COUNTS (R168). -/
def execNoticeCounts (s : State) : Out := request 0x6C#8 serveNoticeCounts s

end Sys2Proof.Machine
end

