-- ==== Sys2Proof/Machine/Dispatch.lean ====
section
/-! DEFINITION. The dispatch: one arm per command, each one call of its meaning. -/

namespace Sys2Proof.Machine

def exec (i : Instr) (s : State) : Host.Outcome State Fault Refusal :=
  match i with
  | .status => Sys2Proof.Machine.execStatus s
  | .eventsClear set => Sys2Proof.Machine.execEventsClear set s
  | .eventsMask set => Sys2Proof.Machine.execEventsMask set s
  | .configWrite id index value => Sys2Proof.Machine.execConfigWrite id index value s
  | .configRead id index => Sys2Proof.Machine.execConfigRead id index s
  | .partReset => Sys2Proof.Machine.execPartReset s
  | .clockRead => Sys2Proof.Machine.execClockRead s
  | .clockSet date time => Sys2Proof.Machine.execClockSet date time s
  | .clockTrim trim => Sys2Proof.Machine.execClockTrim trim s
  | .rollWrite start records => Sys2Proof.Machine.execRollWrite start records s
  | .rollRemove index => Sys2Proof.Machine.execRollRemove index s
  | .rollRead start count => Sys2Proof.Machine.execRollRead start count s
  | .termClear => Sys2Proof.Machine.execTermClear s
  | .markSet index session source value minutes reason explained => Sys2Proof.Machine.execMarkSet index session source value minutes reason explained s
  | .planLoad plan entries => Sys2Proof.Machine.execPlanLoad plan entries s
  | .planRead plan => Sys2Proof.Machine.execPlanRead plan s
  | .trackDelay track first minutes => Sys2Proof.Machine.execTrackDelay track first minutes s
  | .trackInsert track entries => Sys2Proof.Machine.execTrackInsert track entries s
  | .trackSilence track value => Sys2Proof.Machine.execTrackSilence track value s
  | .trackRead track => Sys2Proof.Machine.execTrackRead track s
  | .patternLoad pattern steps => Sys2Proof.Machine.execPatternLoad pattern steps s
  | .patternRead pattern => Sys2Proof.Machine.execPatternRead pattern s
  | .ringNow zones pattern => Sys2Proof.Machine.execRingNow zones pattern s
  | .ringStop zones => Sys2Proof.Machine.execRingStop zones s
  | .ringRead => Sys2Proof.Machine.execRingRead s
  | .terminalRead => Sys2Proof.Machine.execTerminalRead s
  | .signIn index => Sys2Proof.Machine.execSignIn index s
  | .signOut index reason => Sys2Proof.Machine.execSignOut index reason s
  | .offsiteRead => Sys2Proof.Machine.execOffsiteRead s
  | .arrivalsRead start count => Sys2Proof.Machine.execArrivalsRead start count s
  | .sweepRead => Sys2Proof.Machine.execSweepRead s
  | .reportAdd index date scope reason origin => Sys2Proof.Machine.execReportAdd index date scope reason origin s
  | .reportCancel index date => Sys2Proof.Machine.execReportCancel index date s
  | .bookRead position count => Sys2Proof.Machine.execBookRead position count s
  | .noticeTake => Sys2Proof.Machine.execNoticeTake s
  | .noticeOutcome slot creation outcome => Sys2Proof.Machine.execNoticeOutcome slot creation outcome s
  | .noticeHold value => Sys2Proof.Machine.execNoticeHold value s
  | .noticeOrder order => Sys2Proof.Machine.execNoticeOrder order s
  | .noticeCounts => Sys2Proof.Machine.execNoticeCounts s
  | .calendarLoad body => Sys2Proof.Machine.execCalendarLoad body s
  | .calendarRead part => Sys2Proof.Machine.execCalendarRead part s
  | .summaryRead selector => Sys2Proof.Machine.execSummaryRead selector s
  | .linkError kind => Sys2Proof.Machine.execLinkError kind s
  | .unknownKind kind => Sys2Proof.Machine.execUnknownKind kind s
  | .lengthOverLimit => Sys2Proof.Machine.execLengthOverLimit s
  | .brokenFrame => Sys2Proof.Machine.execBrokenFrame s
  | .overlappedFrame => Sys2Proof.Machine.execOverlappedFrame s
  | .replyEnd => Sys2Proof.Machine.execReplyEnd s
  | .subTick => Sys2Proof.Machine.execSubTick s
  | .secondCountUp => Sys2Proof.Machine.execSecondCountUp s
  | .entryFire => Sys2Proof.Machine.execEntryFire s
  | .onPeriodEnd job => Sys2Proof.Machine.execOnPeriodEnd job s
  | .offPeriodEnd job => Sys2Proof.Machine.execOffPeriodEnd job s
  | .chimeWaitDegrade => Sys2Proof.Machine.execChimeWaitDegrade s
  | .offlinePollDue terminal => Sys2Proof.Machine.execOfflinePollDue terminal s
  | .pollStart => Sys2Proof.Machine.execPollStart s
  | .pollSent => Sys2Proof.Machine.execPollSent s
  | .replyReceived characters => Sys2Proof.Machine.execReplyReceived characters s
  | .replyFault => Sys2Proof.Machine.execReplyFault s
  | .characterGapTimeout => Sys2Proof.Machine.execCharacterGapTimeout s
  | .replyTimeout => Sys2Proof.Machine.execReplyTimeout s
  | .quietTimeEnd => Sys2Proof.Machine.execQuietTimeEnd s
  | .tapJudgement => Sys2Proof.Machine.execTapJudgement s
  | .sweepDispatch => Sys2Proof.Machine.execSweepDispatch s
  | .sweepVisit => Sys2Proof.Machine.execSweepVisit s
  | .sweepComplete => Sys2Proof.Machine.execSweepComplete s
  | .noticeRelease => Sys2Proof.Machine.execNoticeRelease s
  | .handedTimeout => Sys2Proof.Machine.execHandedTimeout s
  | .rolloverStage2 => Sys2Proof.Machine.execRolloverStage2 s
  | .rolloverStage3 => Sys2Proof.Machine.execRolloverStage3 s
  | .rolloverWalkSlot => Sys2Proof.Machine.execRolloverWalkSlot s
  | .rolloverStage5 => Sys2Proof.Machine.execRolloverStage5 s
  | .rolloverComplete => Sys2Proof.Machine.execRolloverComplete s
  | .retainEntry => Sys2Proof.Machine.execRetainEntry s
  | .resetNLow => Sys2Proof.Machine.execResetNLow s
  | .powerReturn => Sys2Proof.Machine.execPowerReturn s
  | .pinReset => Sys2Proof.Machine.execPinReset s
  | .requestedStart => Sys2Proof.Machine.execRequestedStart s
  | .syncByte => Sys2Proof.Machine.execSyncByte s
  | .replyAddressCharacter value => Sys2Proof.Machine.execReplyAddressCharacter value s
  | .batteryLoss => Sys2Proof.Machine.execBatteryLoss s

end Sys2Proof.Machine
end

