-- ==== Sys2Proof/Safety.lean ====
section
/-! DEFINITION. What claims are stated in: when the link takes a request, how a state differs by its reply alone, and the
laws of the state that every step keeps, block by block. -/

namespace Sys2Proof.Machine

/-! ### Requests and replies -/

/-- R186: the link runs and the frame that ends now is an ordinary one. -/
def State.takesFrames (s : State) : Bool := s.linkUp && !s.link.overlaps

/-- R186, R187: the state with the reply to a block's answer in hand and the receiver in HUNT, and no other change. The
reply carries the answer whole, up to the limit of a payload (`sentPayload`). -/
def State.answered (s : State) (kind : Byte) (answer : Bytes) : State :=
  s.withLink { s.link with
    receiver := .hunt
    inHand := some { kind := kind, payload := sentPayload answer, thenStart := false } }

/-- R183: the next start will be a cold one. -/
def State.startsCold (s : State) : Bool := !s.power.signature

/-- R193: the table of parameters: id, how many indexes, least value, greatest value, default (that of a zone rank is
its index). -/
def paramTable : List (Nat × Nat × Nat × Nat × (Nat → Nat)) :=
  [(1, 6, 0, 900, fun _ => 120), (2, 6, 0, 90, fun _ => 30), (3, 6, 0, 1, fun _ => 1), (4, 6, 0, 1, fun _ => 1),
   (5, 1, 0, 50, fun _ => 5), (6, 1, 0, 300, fun _ => 60), (7, 1, 0, 1800, fun _ => 300), (8, 1, 5, 120, fun _ => 60),
   (9, 8, 0, 7, fun i => i), (10, 1, 1, 60, fun _ => 10), (11, 1, 1, 5, fun _ => 3), (12, 1, 0, 15, fun _ => 0)]

/-- The requests that are answered BUSY while a rollover is in flight (R3, R7, R13, R21, R34, R41, R59, R61, R63, R112,
R113, R142, R144, R159, R160, R173). -/
def waitsForRollover : Instr → Bool
  | .clockSet _ _ => true
  | .rollWrite _ _ => true
  | .rollRemove _ => true
  | .termClear => true
  | .markSet _ _ _ _ _ _ _ => true
  | .planLoad _ _ => true
  | .trackDelay _ _ _ => true
  | .trackInsert _ _ => true
  | .trackSilence _ _ => true
  | .signIn _ => true
  | .signOut _ _ => true
  | .reportAdd _ _ _ _ _ => true
  | .reportCancel _ _ => true
  | .noticeTake => true
  | .noticeOutcome _ _ _ => true
  | .calendarLoad _ => true
  | _ => false

/-! ### The law of the clock (R25) -/

/-- R25: the clock's date, seconds and prescaler are in range. -/
def State.clockOk (s : State) : Bool :=
  s.clock.date ≤ Config.lastDay && s.clock.seconds < Config.daySeconds && s.clock.prescaler < Config.subTicks

/-! ### The laws of the roll (R1, R9, R19) -/

/-- R1: a slot and its record are in range, and the card index leads from the record's card to the slot. -/
def State.slotOk (s : State) (e : Nat × Pupil) : Bool :=
  e.1 < Config.rollSlots && e.2.card ≠ 0 && e.2.card < 4294967296 && 1 ≤ e.2.number && e.2.number ≤ 9999999 &&
    s.slotOfCard e.2.card = some e.1

/-- R1: an entry of the card index leads to an occupied slot that holds the card. -/
def State.cardOk (s : State) (e : Nat × Nat) : Bool :=
  match s.pupilAt e.2 with
  | some p => p.card = e.1
  | none => false

/-- R1: the roll and the card index are in their one form and agree. -/
def State.rollOk (s : State) : Bool :=
  keysRise s.roll && keysRise s.cards && s.roll.all s.slotOk && s.cards.all s.cardOk

/-- R9: the fields of a mark agree with its value, and a mark of NONE or NOT_REQUIRED has source NONE. -/
def Mark.ok (m : Mark) : Bool :=
  m.minutes ≤ 255 && (m.value.isLate == decide (1 ≤ m.minutes)) && (m.reason.isSome == decide (m.value = .authorised)) &&
    (!m.explained || m.value.isLate) && (!m.counted || (m.value.isLate && !m.explained)) && m.charge ≤ m.minutes &&
    (m.charge = 0 || (m.value.isLate && !m.explained)) && ((m.value ≠ .none && m.value ≠ .notRequired) || m.source = .none)

/-- R19, R20: the tallies are in range and hold at least what the pupil's two marks have charged. -/
def Pupil.tallyOk (p : Pupil) : Bool :=
  p.mark1.ok && p.mark2.ok && p.lateCount ≤ 255 && p.lateMinutes ≤ 65535 &&
    p.mark1.charge + p.mark2.charge ≤ p.lateMinutes && p.mark1.counted.toNat + p.mark2.counted.toNat ≤ p.lateCount

/-- R9, R19, R20: every pupil's marks and tallies obey their law. -/
def State.talliesOk (s : State) : Bool := s.roll.all fun e => e.2.tallyOk

/-! ### The law of NOT_REQUIRED (R9, R18, R179) -/

/-- R179: a slot's marks already belong to the rollover's new day, by its selections. -/
def Rollover.renewed (r : Rollover) (slot : Nat) : Bool := (r.stage = 4 && slot < r.position) || r.stage = 5

/-- R4, R18: a pupil's track has a session, on the day that the pupil's marks stand for. -/
def State.markedSession (s : State) (slot : Nat) (t : Track) (k : Session) : Bool :=
  match s.days.rollover with
  | some r => if r.renewed slot then s.willHave r t k else (s.plan t).hasSession k
  | none => (s.plan t).hasSession k

/-- R9: a mark is NOT_REQUIRED just when the track has no such session. -/
def State.requiredOk (s : State) (e : Nat × Pupil) (k : Session) : Bool :=
  ((e.2.mark k).value == .notRequired) == !(s.markedSession e.1 e.2.track k)

/-- R175: a rollover's stage and walk position are in range, and its selections are made from stage 4 on. -/
def Rollover.ok (r : Rollover) : Bool :=
  1 ≤ r.stage && r.stage ≤ 6 && (r.stage ≤ 3 || r.selections.isSome) &&
    (if r.stage ≤ 3 then r.position = 0
    else if r.stage = 4 then r.position < Config.rollSlots
    else r.position = Config.rollSlots)

/-- R9, R18: every mark of the roll is NOT_REQUIRED just when it should be. -/
def State.notRequiredOk (s : State) : Bool :=
  (match s.days.rollover with
    | some r => r.ok
    | none => true) &&
  keysRise s.roll &&
  s.roll.all fun e => e.1 < Config.rollSlots && e.2.mark1.ok && e.2.mark2.ok && s.requiredOk e .s1 && s.requiredOk e .s2

/-! ### The law of plans (R40, R42, R45, R46, R59) -/

/-- R42: the times of a stored plan do not fall. -/
def timesRise : List PlanEntry → Bool
  | [] => true
  | [_] => true
  | e :: f :: l => e.time ≤ f.time && timesRise (f :: l)

/-- R40: a stored plan. -/
def planOk (l : List PlanEntry) : Bool :=
  l.length ≤ Config.planEntries && timesRise l && l.all fun e => e.time < Config.daySeconds

/-- R45, R46: a running plan. -/
def RunningPlan.ok (r : RunningPlan) : Bool :=
  r.entries.length ≤ Config.runningEntries && r.insertedCount ≤ Config.insertedEntries && inOrder r.entries &&
    r.entries.length ≤ Config.planEntries + r.insertedCount && r.entries.all RunningEntry.inRange

/-- R40, R45, R46: every stored plan and every running plan obeys its law. -/
def State.plansOk (s : State) : Bool :=
  s.plans.toList.all planOk && allTracks.all fun t => (s.plan t).ok

/-- R42: a list of entries that closes the register of a session opens that session too. -/
def opensWhatItCloses (l : List PlanEntry) (k : Session) : Bool :=
  !(l.any fun e => e.kind = .registerClose k) || l.any fun e => e.kind = .sessionOpen k

/-- R42, R45, R47: a running plan has a state for a session just where it holds that SESSION_OPEN, and it has it where it
holds that REGISTER_CLOSE. -/
def RunningPlan.sessionHeld (r : RunningPlan) (k : Session) : Bool :=
  ((r.session k).isSome == r.entries.any fun e => e.entry.kind = .sessionOpen k) &&
    opensWhatItCloses (r.entries.map RunningEntry.entry) k

/-- R45, R47, R48: a running plan's session states are those of its entries, it names a stored plan just where it has
entries, and without entries its day is ENDED. -/
def RunningPlan.statesHeld (r : RunningPlan) : Bool :=
  r.sessionHeld .s1 && r.sessionHeld .s2 && (r.plan.isSome == !r.entries.isEmpty) && (!r.entries.isEmpty || r.day = .ended)

/-- R42, R45, R47, R48: every running plan's states are those of its entries, and every stored plan can be built into one
whose states are. -/
def State.statesHeld (s : State) : Bool :=
  (allTracks.all fun t => (s.plan t).statesHeld) &&
    s.plans.toList.all fun l => opensWhatItCloses l .s1 && opensWhatItCloses l .s2

/-- R42: the structure of a school day, entry by entry against the entries before it. -/
def PlanValid (l : List PlanEntry) : Prop :=
  ∀ (j : Nat) (e : PlanEntry), l[j]? = some e →
    e.time < Config.daySeconds ∧
    (∀ (i : Nat) (f : PlanEntry), i < j → l[i]? = some f →
      f.time ≤ e.time ∧ f.kind ≠ .dayClose ∧ (e.kind ≠ .plain → f.kind ≠ e.kind) ∧
        (e.kind = .registerClose .s1 → f.kind ≠ .sessionOpen .s2)) ∧
    (∀ k, e.kind = .registerClose k →
      ∃ (i : Nat) (f : PlanEntry), i < j ∧ l[i]? = some f ∧ f.kind = .sessionOpen k ∧ f.time < e.time) ∧
    (e.kind = .sessionOpen .s2 → ∃ (i : Nat) (f : PlanEntry), i < j ∧ l[i]? = some f ∧ f.kind = .sessionOpen .s1)

/-- R188: a time of day as a request carries it. -/
def timeField (t : Nat) : TimeField := { hour := toBcd (t / 3600), minute := toBcd (t / 60 % 60), second := toBcd (t % 60) }

/-- R40, R188: the code of an entry kind. -/
def kindCode : EntryKind → Byte
  | .plain => 0#8
  | .sessionOpen _ => 1#8
  | .registerClose _ => 2#8
  | .dayClose => 3#8

/-- R188: the code of a session, 0 where there is none. -/
def sessionCode : Option Session → Byte
  | some .s1 => 1#8
  | some .s2 => 2#8
  | none => 0#8

/-- R41: a plan entry as PLAN_LOAD carries it. -/
def PlanEntry.item (e : PlanEntry) : PlanItem :=
  { time := timeField e.time, kind := kindCode e.kind, session := sessionCode e.kind.session, zones := e.zones,
    pattern := BitVec.ofNat 8 e.pattern.val }

/-- R51: entry `j` of a running plan fires on a count-up to `now`: it is PENDING, and no PENDING entry up to it is later
than now. -/
def RunningPlan.fires (r : RunningPlan) (now j : Nat) : Prop :=
  (∃ e, r.entries[j]? = some e ∧ e.state = .pending) ∧
    ∀ (i : Nat) (f : RunningEntry), i ≤ j → r.entries[i]? = some f → f.state = .pending → f.effective ≤ (now : Int)

/-- R54: entry `j` fires late but within the window. -/
def RunningPlan.firesInBand (r : RunningPlan) (now window j : Nat) : Prop :=
  r.fires now j ∧ ∀ e, r.entries[j]? = some e → 1 ≤ (now : Int) - e.effective ∧ (now : Int) - e.effective ≤ (window : Int)

/-- R54: entry `j` fires beyond the window. -/
def RunningPlan.firesBeyond (r : RunningPlan) (now window j : Nat) : Prop :=
  r.fires now j ∧ ∀ e, r.entries[j]? = some e → (window : Int) < (now : Int) - e.effective ∧ 1 ≤ (now : Int) - e.effective

/-- R54: entry `j` fires and rings. -/
def RunningPlan.rings (r : RunningPlan) (now window j : Nat) : Prop :=
  r.silence = false ∧ r.fires now j ∧
    ((∀ e, r.entries[j]? = some e → e.effective = (now : Int)) ∨
      (r.firesInBand now window j ∧ ∀ i, j < i → ¬ r.firesInBand now window i))

/-- R52: an entry of a kind fires, and no entry of another kind fires after it. -/
def RunningPlan.firesLast (r : RunningPlan) (now : Nat) (k other : EntryKind) : Prop :=
  ∃ j e, r.fires now j ∧ r.entries[j]? = some e ∧ e.entry.kind = k ∧
    ∀ (i : Nat) (f : RunningEntry), j < i → r.fires now i → r.entries[i]? = some f → f.entry.kind ≠ other

/-- R52: the sweep request of a fired entry of a track. -/
def sweepAsked (t : Track) (e : RunningEntry) : Option SweepRequest :=
  match e.entry.kind with
  | .registerClose k => some { track := t, session := k, byStart := false }
  | _ => none

/-! ### The law of rings (R68, R72, R74, R75) -/

/-- R74: no zone of the first set is in any of the others. -/
def apart (zones : BitVec 8) (l : List Job) : Bool := l.all fun j => j.isWaiting || zones &&& j.zones = 0#8

/-- R74: no two PLAYING jobs own the same zone. -/
def zonesApart : List Job → Bool
  | [] => true
  | j :: l => (j.isWaiting || apart j.zones l) && zonesApart l

/-- R68, R72, R74, R75: the pattern store, the jobs, the chime line and the chime queue. -/
def RingUnit.ok (r : RingUnit) : Bool :=
  (r.patterns.toList.all fun l => l.length ≤ Config.patternSteps) && !r.patterns[0].isEmpty && zonesApart r.jobs &&
    r.waiting.length ≤ Config.chimeQueue && (r.jobs.filter Job.holds).length ≤ 1 &&
    (r.waiting.isEmpty || r.holder.isSome) && (r.jobs.all fun j => !j.spent) && r.nextJob ≤ Config.counterTop

/-- R75: the rank of a waiting job's zone set: the lowest zone rank among its zones, 8 for the empty set. -/
def chimeRank (ranks : Vector Nat 8) (zones : BitVec 8) : Nat :=
  (((List.finRange 8).filter fun z => zones.getLsbD z.val).map fun z => ranks[z]).foldl min 8

/-- R73: a PLAYING job after another job has taken zones over; a WAITING job keeps its zone set. -/
def Job.without (m : Job) (zones : BitVec 8) : Job := if m.play = none then m else { m with zones := m.zones &&& ~~~zones }

/-- R73, R75: what the arbiter makes of jobs whose line is free: `jobs` are `left` where the line is held or none waits; and
else the waiting job of the lowest rank, the earliest created among equals, holds the line and plays its first step, its
zones are taken from the PLAYING jobs, and those that have then neither zones nor the line end. -/
def Granted (ranks : Vector Nat 8) (left jobs : List Job) : Prop :=
  (left.any Job.holds = true ∨ left.all (fun m => m.play ≠ none) = true → jobs = left) ∧
  (left.any Job.holds = false → left.all (fun m => m.play ≠ none) = false →
    ∃ (before after : List Job) (j : Job), left = before ++ j :: after ∧ j.play = none ∧
      (∀ m ∈ before, m.play = none → chimeRank ranks j.zones < chimeRank ranks m.zones) ∧
      (∀ m ∈ after, m.play = none → chimeRank ranks j.zones ≤ chimeRank ranks m.zones) ∧
      jobs = ((before.map fun m => m.without j.zones) ++
        { j with
          degraded := false
          play := some { step := 0, repeatsLeft := ((j.steps[0]?).map PatternStep.repeats).getD 0, sounding := true,
                         holdsChime := true } } ::
        (after.map fun m => m.without j.zones)).filter fun m => m.play = none || m.zones ≠ 0#8 || m.holds)

/-! ### The law of the desk line (R87 to R91, R94) -/

/-- R94: how many taps of a terminal wait in the tap queue. -/
def Desk.tapsOf (d : Desk) (t : Fin 4) : Nat := (d.taps.filter fun p => p.terminal = t).length

/-- R91: a terminal that an open exchange has told READY. -/
def Desk.toldReady (d : Desk) (t : Fin 4) : Bool :=
  match d.line with
  | .exchange e => e.terminal = t && e.ready
  | _ => false

/-- R87 to R94: a terminal's record: its tap-in-queue mark tells how many taps of its wait, only an ONLINE terminal
has a verdict, and the terminal is DISABLED just when its address is not enabled, an open exchange apart. -/
def State.terminalOk (s : State) (t : Fin 4) : Bool :=
  let v := s.terminal t
  s.desk.tapsOf t = v.tapQueued.toNat && !(s.desk.toldReady t && v.tapQueued) && v.consecutive ≤ Config.missLimit &&
    (v.state = .online || v.slot.isNone) && (v.state ≠ .online || v.consecutive < Config.missLimit) &&
    (!v.due || v.state = .offline) &&
    (if s.desk.exchangeWith t then v.state ≠ .disabled else decide (v.state = .disabled) == !s.params.enables t)

/-- R87 to R94: every terminal record agrees with the tap queue, the line and the enabled set. -/
def State.deskOk (s : State) : Bool := allTerminals.all s.terminalOk

/-! ### The laws of the log and of the lists that name pupils (R115, R117, R139, R141) -/

/-- R117: sequence numbers follow one another up to the next one to be given. -/
def sequenceOk (next : Nat) : List LogRecord → Bool
  | [] => true
  | [r] => wrapNext r.sequence = next
  | r :: q :: l => wrapNext r.sequence = q.sequence && sequenceOk next (q :: l)

/-- R117, R118: the arrivals log. -/
def Arrivals.logOk (a : Arrivals) : Bool :=
  a.log.length ≤ Config.arrivalsLog && sequenceOk a.nextSequence a.log && a.nextSequence ≤ Config.counterTop &&
    a.overwrites ≤ Config.counterTop

/-- No pupil stands on the off-site list twice. -/
def offsiteOnce : List OffsiteEntry → Bool
  | [] => true
  | e :: l => (l.all fun f => f.pupil ≠ e.pupil) && offsiteOnce l

/-- R139, R141: no pupil and date have two entries, and the dates do not fall. -/
def bookInOrder : List BookEntry → Bool
  | [] => true
  | e :: l => (l.all fun f => e.date ≤ f.date && !(f.pupil = e.pupil && f.date = e.date)) && bookInOrder l

/-- R7, R115, R139, R141: the off-site list and the reason book are within their sizes, in order, and name only
occupied slots. -/
def State.listsOk (s : State) : Bool :=
  s.arrivals.offsite.length ≤ Config.offsiteList && offsiteOnce s.arrivals.offsite &&
    s.book.length ≤ Config.bookEntries && bookInOrder s.book &&
    (s.arrivals.offsite.all fun e => (s.pupilAt e.pupil).isSome) && s.book.all fun e => (s.pupilAt e.pupil).isSome

/-- R141, R177: the day whose horizon the reason book keeps: today, and the new date once a rollover has passed stage 2. -/
def State.bookDay (s : State) : Nat :=
  match s.days.rollover with
  | some r => if r.stage ≤ 2 then s.days.today else r.new
  | none => s.days.today

/-- R141: every entry of the reason book is dated within the horizon: from that day to 14 days on, and not past day
36,524. -/
def State.horizonOk (s : State) : Bool :=
  s.book.all fun e => s.bookDay ≤ e.date && e.date ≤ s.bookDay + 14 && e.date ≤ 36524

/-! ### The law of sweeps (R122, R123) -/

/-- R122: a track and session have a request in the queue or in flight. -/
def Sweep.names (w : Sweep) (t : Track) (k : Session) : Bool :=
  (w.queue.any fun r => r.track = t && r.session = k) ||
    match w.flight with
    | some f => f.request.track = t && f.request.session = k
    | none => false

/-- R122: no two requests of the queue and the flight name the same track and session. -/
def Sweep.distinct (w : Sweep) : Bool :=
  let l := w.queue.map fun r => (r.track, r.session)
  match w.flight with
  | some f => decide ((f.request.track, f.request.session) :: l).Nodup
  | none => decide l.Nodup

/-- R41: how many REGISTER_CLOSE entries for a session a stored plan has. -/
def closesOf (l : List PlanEntry) (k : Session) : Nat := (l.filter fun e => e.kind = .registerClose k).length

/-- R47, R52: a session may have its REGISTER_CLOSE still to come: it is neither CLOSING nor CLOSED. -/
def RunningPlan.mayClose (r : RunningPlan) (k : Session) : Bool :=
  r.session k ≠ some .closing && r.session k ≠ some .closed

/-- R42, R52: a running plan closes the register of a session at most once. -/
def RunningPlan.closesOnce (r : RunningPlan) (k : Session) : Bool :=
  closesOf (r.entries.map RunningEntry.entry) k ≤ 1 &&
    ((r.entries.all fun e => e.entry.kind ≠ .registerClose k || e.state ≠ .pending) || r.mayClose k)

/-- R42: no SESSION_OPEN of a session stands behind a REGISTER_CLOSE of it. -/
def opensFirst (k : Session) : List PlanEntry → Bool
  | [] => true
  | e :: l => (e.kind ≠ .registerClose k || l.all fun f => f.kind ≠ .sessionOpen k) && opensFirst k l

/-- R42, R52: the entries of a running plan open a session before they close its register, and no SESSION_OPEN is PENDING
once the session is CLOSING or CLOSED. -/
def RunningPlan.opensInOrder (r : RunningPlan) (k : Session) : Bool :=
  opensFirst k (r.entries.map RunningEntry.entry) &&
    ((r.entries.all fun e => e.entry.kind ≠ .sessionOpen k || e.state ≠ .pending) || r.mayClose k)

/-- R42, R47, R52: a running plan opens and closes the register of a session in order, and closes it at most once. -/
def RunningPlan.sessionOk (r : RunningPlan) (k : Session) : Bool := r.closesOnce k && r.opensInOrder k

/-- R42: a stored plan opens and closes the register of a session in order, and closes it at most once. -/
def storedSessionOk (l : List PlanEntry) (k : Session) : Bool := closesOf l k ≤ 1 && opensFirst k l

/-- R122, R123: a request names a CLOSING session, and while the blocks run every CLOSING session has its request. -/
def State.requestOk (s : State) (t : Track) (k : Session) : Bool :=
  (!s.sweep.names t k || (s.plan t).session k = some .closing) &&
    (!s.blocksRun || (s.plan t).session k ≠ some .closing || s.sweep.names t k)

/-- R176: from stage 2 on no sweep is left and no session is CLOSING. -/
def State.sweptOut (s : State) : Bool :=
  s.sweepsDone &&
    allTracks.all fun t => (s.plan t).session .s1 ≠ some .closing && (s.plan t).session .s2 ≠ some .closing

/-- R42, R122, R123, R176: the sweep requests and the CLOSING sessions answer to one another, the stored and running plans
can make a session CLOSING but once, and a rollover stands at stage 1 just while a sweep is left, if the blocks run. -/
def State.sweepsOk (s : State) : Bool :=
  s.sweep.distinct &&
    (allTracks.all fun t => s.requestOk t .s1 && s.requestOk t .s2 && (s.plan t).sessionOk .s1 &&
      (s.plan t).sessionOk .s2) &&
    (s.plans.toList.all fun l => storedSessionOk l .s1 && storedSessionOk l .s2) &&
    match s.days.rollover with
    | some r => if r.stage = 1 then !s.blocksRun || !s.sweepsDone else s.sweptOut
    | none => true

/-! ### The laws of notices (R150, R167) -/

/-- R150: two notices share neither a slot nor kind, pupil, date and session. -/
def Notice.apartFrom (n m : Notice) : Bool :=
  n.slot ≠ m.slot &&
    !(n.kind.index = m.kind.index && n.kind.session = m.kind.session && n.pupil = m.pupil && n.date = m.date)

/-- R150: every two notices are apart. -/
def noticesApart : List Notice → Bool
  | [] => true
  | n :: l => l.all n.apartFrom && noticesApart l

/-- R150: the law of the queue: its size, the notices out with the host, no two alike, and attempts below the limit's
greatest value. -/
def State.noticesOk (s : State) : Bool :=
  s.notices.list.length ≤ Config.notices && (s.notices.list.all fun n => n.slot < Config.notices) &&
    noticesApart s.notices.list && s.notices.inState Notice.isHanded ≤ Config.handedNotices &&
    (s.notices.list.all fun n => n.attempts ≤ 4) && s.params.attemptLimit ≤ 5 &&
    s.notices.nextCreation ≤ Config.counterTop

/-- R164: a notice that may still come to a parent as it stands: HELD, READY, or HANDED and not superseded. -/
def Notice.stands (n : Notice) : Bool := n.mode = .none

/-- R164: an ABSENCE notice that stands is dated today and its pupil's mark is UNEXPLAINED. -/
def State.absenceOk (s : State) (n : Notice) : Bool :=
  match n.kind with
  | .absence k =>
    !n.stands || (n.date = s.days.today &&
      match s.pupilAt n.pupil with
      | some p => (p.mark k).value = .unexplained
      | none => false)
  | _ => true

/-- R164, R169: every ABSENCE notice that stands has its UNEXPLAINED mark, and none is left once a rollover has closed the
old day. -/
def State.absencesOk (s : State) : Bool :=
  s.notices.list.all s.absenceOk &&
    match s.days.rollover with
    | some r => r.stage ≤ 2 || s.notices.list.all fun n => n.kind.index ≠ 0
    | none => true

/-- R167: every notice created today was delivered, abandoned, withdrawn, expired or evicted, or is in the queue. -/
def NoticeQueue.conserved (q : NoticeQueue) : Bool :=
  q.counters.created = q.counters.delivered + q.counters.abandoned + q.counters.withdrawn + q.counters.expired +
    q.counters.evicted + q.list.length

/-! ### The desk line and taps in the words of R84, R90, R104, R117 and R118 -/

/-- R90: an OFFLINE terminal whose offline poll is due. -/
def Desk.awaitsOffline (d : Desk) (a : Fin 4) : Prop := d.terminals[a].state = .offline ∧ d.terminals[a].due = true

/-- R90: the terminal that the next poll goes to. -/
def Desk.pollsNext (d : Desk) (a : Fin 4) : Prop :=
  (d.awaitsOffline a ∧ ∀ b, b < a → ¬ d.awaitsOffline b) ∨
  ((∀ b, ¬ d.awaitsOffline b) ∧ d.terminals[a].state = .online ∧
    match d.round with
    | none => ∀ b, b < a → d.terminals[b].state ≠ .online
    | some l =>
      (l < a ∧ ∀ b, l < b → b < a → d.terminals[b].state ≠ .online) ∨
        ((∀ b, l < b → d.terminals[b].state ≠ .online) ∧ ∀ b, b < a → d.terminals[b].state ≠ .online))

/-- R83, R84: the sum of data characters. -/
def sumOf (l : Bytes) : Nat := (l.map BitVec.toNat).sum

/-- R84, R85: the characters of a reply with no forbidden value: no tap, or an IN or OUT tap. -/
def replyForm (l : Bytes) : Prop :=
  (∃ c, l = [0#8, c]) ∨
    ∃ c3 c2 c1 c0 kind reason c : Byte, l = [1#8, c3, c2, c1, c0, kind, reason, c] ∧
      (kind = 1#8 ∨ (kind = 2#8 ∧ 1 ≤ reason.toNat ∧ reason.toNat ≤ 4))

/-- R84: the kind and reason characters of a tap. -/
def tapCodes (kind reason : Byte) : TapKind → Prop
  | .tapIn => kind = 1#8
  | .tapOut .appointment => kind = 2#8 ∧ reason = 1#8
  | .tapOut .unwell => kind = 2#8 ∧ reason = 2#8
  | .tapOut .family => kind = 2#8 ∧ reason = 3#8
  | .tapOut .otherAuthorised => kind = 2#8 ∧ reason = 4#8
  | .tapOut _ => False

/-- R95, R111, R117, R118: a judged tap's log record and the hand-back of its verdict. -/
def State.concluded (u : State) (tap : Tap) (pupil : Option Nat) (c : VerdictCode) (k : Option Session)
    (minutes number : Nat) : State :=
  let full := 512 ≤ u.arrivals.log.length
  ((u.withArrivals { u.arrivals with
      log := (if full then u.arrivals.log.drop 1 else u.arrivals.log) ++
        [{ sequence := u.arrivals.nextSequence, stamp := tap.stamp, pupil := pupil, terminal := tap.terminal.val + 1,
           isOut := decide (tap.kind ≠ .tapIn), verdict := c, session := k, minutes := minutes }]
      nextSequence := if u.arrivals.nextSequence < 65535 then u.arrivals.nextSequence + 1 else 0
      overwrites := if full then bump u.arrivals.overwrites else u.arrivals.overwrites }).withLink
    { u.link with raised := if full then u.link.raised ||| 0x20#8 else u.link.raised }).putTerminal tap.terminal
      { u.terminal tap.terminal with
        tapQueued := false
        slot := if (u.terminal tap.terminal).state = .online then some { code := c, minutes := minutes, number := number }
          else (u.terminal tap.terminal).slot }

/-- R104: a session's SESSION_OPEN has fired and lies at or before a stamp. -/
def RunningPlan.openFor (r : RunningPlan) (k : Session) (t : Nat) : Prop :=
  ∃ e, r.openEntry k = some e ∧ e.state ≠ .pending ∧ e.effective ≤ (t : Int)

/-- R104: the reference session of a stamp: 2 just where session 2 is open for it. -/
def RunningPlan.refersTo (r : RunningPlan) (t : Nat) (k : Session) : Prop := k = .s2 ↔ r.openFor .s2 t

/-- R104: the day's close has fired and lies at or before a stamp. -/
def RunningPlan.overFor (r : RunningPlan) (t : Nat) : Prop :=
  ∃ e ∈ r.entries, e.entry.kind = .dayClose ∧ e.state ≠ .pending ∧ e.effective ≤ (t : Int)

/-- R106, R107: how late a stamp is for a session, none where it is on time: the lateness seconds, and whether the
register had closed. -/
def RunningPlan.lateFor (r : RunningPlan) (k : Session) (t grace : Nat) (l : Nat) (shut : Bool) : Prop :=
  ∃ e, r.openEntry k = some e ∧ e.state ≠ .pending ∧ e.effective ≤ (t : Int) ∧ 0 < l ∧
    (t : Int) - e.effective - (grace : Int) = (l : Int) ∧
    (shut = true ↔ ∃ c, r.closeEntry k = some c ∧ c.effective ≤ (t : Int))

/-! ### Dates and ranks in the words of R151, R152 and R188 -/

/-- R188: a day number's date as a request carries it. -/
def dateField (n : Nat) : DateField := { year := toBcd (yearOf n), month := toBcd (monthOf n), day := toBcd (dayOfMonth n) }

/-- R151: the place of a kind's class in the class order, 0 for the first. -/
def classPlace (order : Fin 6) : NoticeKind → Nat
  | .late _ _ _ => [1, 2, 0, 0, 2, 1].getD order.val 0
  | .pattern _ => [2, 1, 2, 1, 0, 0].getD order.val 0
  | _ => [0, 0, 1, 2, 1, 2].getD order.val 0

/-- R152: the rank of a kind: its class, then ARRIVED before ABSENCE. -/
def kindRank (order : Fin 6) (k : NoticeKind) : Nat :=
  2 * classPlace order k + (match k with
    | .absence _ => 1
    | _ => 0)

end Sys2Proof.Machine
end

