-- ==== Sys2Proof/Certificates/Slice0/Obligations.lean ====
section
/-! DEFINITION. The statements for the provers, each formalising rules of spec/. -/

section

open Sys2Proof Sys2Proof.Machine

/-! ### The queue and the machine as a whole -/

/-- A step runs the command at the front of the queue on the state with the rest of the queue, and idles on an empty
queue. The queue is the model's own (log 1). -/
def Obligations.step_runs_front_command : Prop :=
  (∀ (c : Instr) (rest : List Instr) (s : State), s.pending = c :: rest → step s = exec c (s.withPending rest)) ∧
  ∀ s : State, s.pending = [] → step s = .next s

/-- Every command completes in every state, and none touches the queue of commands, which is the model's own (log 1). -/
def Obligations.every_command_completes : Prop :=
  ∀ (i : Instr) (s : State), ∃ t, exec i s = .next t ∧ t.pending = s.pending

/-- R171, R175: whatever the command, today changes only at the completion of a rollover, the clock moves only by a
sub-tick, a set or a trim, and the card index changes only by ROLL_WRITE and ROLL_REMOVE; a cold start apart. That
SECOND_COUNT_UP is the wrap of a sub-tick by its other name is a deduction (log 15). -/
def Obligations.owners_alone_change_clock_today_cards : Prop :=
  ∀ (i : Instr) (s t : State), exec i s = .next t →
    ¬ (s.power.signature = false ∧ (i = .powerReturn ∨ i = .pinReset ∨ i = .requestedStart)) →
    (i ≠ .rolloverComplete → t.days.today = s.days.today) ∧
    (i ≠ .subTick → i ≠ .secondCountUp → (∀ d h, i ≠ .clockSet d h) → (∀ x, i ≠ .clockTrim x) → t.clock = s.clock) ∧
    ((∀ a l, i ≠ .rollWrite a l) → (∀ a, i ≠ .rollRemove a) → t.cards = s.cards)

/-! ### The link: requests, replies and frames -/

/-- R185 to R187: an ordinary request is taken and answered with its code + 0x80, the receiver is in HUNT, the reply
begins with a status 0 to 6 and has at most 1,040 bytes, a BAD_FIELD carries one byte more and BUSY, NO_SUCH, FULL and STATE carry none; the
reply to PART_RESET alone announces a start (R183). While a rollover is in flight sixteen requests are answered BUSY and
change nothing (R175 and their own rules). In HUNT the command stands for its whole frame (log 7), and it is answered
whether or not it is well-formed (log 19): both are the model's choice. -/
def Obligations.ordinary_requests_are_answered : Prop :=
  ∀ (i : Instr) (k : Byte) (p : Bytes) (s : State), i.request = some (k, p) → s.takesFrames = true →
    ∃ t r st rest, exec i s = .next t ∧ t.link.receiver = .hunt ∧ t.link.inHand = some r ∧ r.kind = k + 0x80#8 ∧
      r.thenStart = decide (i = .partReset) ∧ r.payload = st :: rest ∧ r.payload.length ≤ 1040 ∧ st.toNat ≤ 6 ∧
      (st = 3#8 → rest.length = 1) ∧ (st = 2#8 ∨ st = 4#8 ∨ st = 5#8 ∨ st = 6#8 → rest = []) ∧
      (waitsForRollover i = true → s.rolling = true → exec i s = .next (s.answered (k + 0x80#8) [2#8]))

/-- R187: a request that is answered BUSY, BAD_FIELD, NO_SUCH, FULL or STATE has changed nothing but the link's receiver
and reply, ROLL_WRITE apart. -/
def Obligations.refused_requests_change_nothing : Prop :=
  ∀ (i : Instr) (k : Byte) (p : Bytes) (s t : State) (r : Reply) (st : Byte) (rest : Bytes),
    i.request = some (k, p) → (∀ a l, i ≠ .rollWrite a l) → s.takesFrames = true → exec i s = .next t →
    t.link.inHand = some r → r.payload = st :: rest → 2 ≤ st.toNat →
    t = s.withLink { s.link with receiver := .hunt, inHand := some r }

/-- R186, R195: a frame that ends overlapped is only counted, whatever it asked for (the counter saturates), and a
stopped link discards every frame and every event of the line. Where the receiver is in HUNT the command stands for the
whole frame, which is the model's choice (log 7). -/
def Obligations.untaken_frames_do_nothing : Prop :=
  ∀ (i : Instr) (s : State),
    ((s.linkUp = true → s.link.overlaps = true →
      i.request.isSome = true ∨ (∃ k, i = .linkError k) ∨ (∃ k, i = .unknownKind k) ∨ i = .lengthOverLimit ∨
        i = .overlappedFrame →
      exec i s = .next (s.withLink { s.link with
        receiver := .hunt
        overlapped := if s.link.overlapped < 65535 then s.link.overlapped + 1 else s.link.overlapped })) ∧
    (s.linkUp = false →
      i.request.isSome = true ∨ (∃ k, i = .linkError k) ∨ (∃ k, i = .unknownKind k) ∨ i = .lengthOverLimit ∨
        i = .overlappedFrame ∨ i = .brokenFrame ∨ i = .replyEnd ∨ i = .syncByte →
      exec i s = .next s))

/-- R192: STATUS is answered OK at any time with the state as it stands, and removes nothing from the pending set. The codes
of the start cause, the clock state and the power state, and the one byte of a rollover's stage, are the model's choice
(log 6). -/
def Obligations.status_reports_the_state : Prop :=
  ∀ s : State, s.takesFrames = true →
    exec .status s = .next (s.answered 0x81#8
      ([0#8] ++ encStartCause s.power.record.cause ++ encDate s.power.record.time.date ++
        encTime s.power.record.time.seconds ++ encOption encStamp s.power.record.lastRetain ++
        [if s.clock.isSet then 0#8 else 1#8] ++ [0#8] ++ [s.pendingSet] ++ [s.link.mask] ++
        encOption (fun r : Rollover => [BitVec.ofNat 8 r.stage]) s.days.rollover ++
        [BitVec.ofNat 8 s.sweep.queue.length] ++ [if s.sweep.flight.isSome then 1#8 else 0#8] ++
        [BitVec.ofNat 8 s.desk.taps.length] ++ [BitVec.ofNat 8 (s.notices.list.filter Notice.isHeld).length] ++
        [BitVec.ofNat 8 (s.notices.list.filter Notice.isReady).length] ++
        [BitVec.ofNat 8 (s.notices.list.filter Notice.isHanded).length] ++ u16 s.link.broken ++ u16 s.link.overlapped ++
        u16 s.link.bad)) ∧
    ∀ t, exec .status s = .next t → t.pendingSet = s.pendingSet

/-- R191: EVENTS_CLEAR removes the classes SWEEP_DONE to START it names and no other, EVENTS_MASK replaces the mask and
ATTN follows at once; both are taken at any time. -/
def Obligations.events_are_cleared_and_masked : Prop :=
  ∀ (s : State) (set : Byte), s.takesFrames = true →
    (∃ t, exec (.eventsClear set) s = .next t ∧ t.pendingSet = s.pendingSet &&& ~~~(set &&& 0x7E#8) ∧
      t = (s.withLink { s.link with raised := s.link.raised &&& ~~~(set &&& 0x7E#8) }).answered 0x82#8
        [0#8, t.pendingSet, s.link.mask]) ∧
    (∃ t, exec (.eventsMask set) s = .next t ∧ t.attnLow = !(s.pendingSet &&& ~~~set == 0#8) ∧
      t = (s.withLink { s.link with mask := set }).answered 0x83#8 [0#8, s.link.mask, set, s.pendingSet])

/-- R193, R194: CONFIG_READ checks id and index against the table of parameters, and answers with the value as it stands,
the minimum, the maximum and the default. That every value takes two bytes is the model's choice (log 6). -/
def Obligations.config_read_follows_the_table : Prop :=
  ∀ (s : State) (id index : Byte), s.takesFrames = true →
    match paramTable.find? fun row => row.1 = id.toNat with
    | none => exec (.configRead id index) s = .next (s.answered 0x85#8 [3#8, 0#8])
    | some (_, indexes, least, greatest, default) =>
      if index.toNat < indexes then
        ∃ q, paramOf id index = .ok q ∧
          exec (.configRead id index) s = .next (s.answered 0x85#8
            (0#8 :: (u16 (s.params.get q) ++ u16 least ++ u16 greatest ++ u16 (default index.toNat))))
      else exec (.configRead id index) s = .next (s.answered 0x85#8 [3#8, 1#8])

/-- R193, R88: CONFIG_WRITE checks id, index and value against the table, stores the value and answers with the previous
value and the new one. No other parameter changes. The enabled set alone changes more: an address added makes its
terminal OFFLINE with its poll due, an address removed makes it DISABLED unless an exchange with it is open; an address
added again while that exchange is open changes nothing of it, which is the model's choice (log 21), as are the two bytes
of each value replied (log 6). That a terminal made DISABLED keeps its misses in a row is a deduction (log 20). -/
def Obligations.config_write_stores_the_value : Prop :=
  ∀ (s : State) (id index : Byte) (value : BitVec 16), s.takesFrames = true →
    match paramTable.find? fun row => row.1 = id.toNat with
    | none => exec (.configWrite id index value) s = .next (s.answered 0x84#8 [3#8, 0#8])
    | some (_, indexes, least, greatest, _) =>
      if ¬ index.toNat < indexes then exec (.configWrite id index value) s = .next (s.answered 0x84#8 [3#8, 1#8])
      else if ¬ (least ≤ value.toNat ∧ value.toNat ≤ greatest) then
        exec (.configWrite id index value) s = .next (s.answered 0x84#8 [3#8, 2#8])
      else
        ∃ q t, paramOf id index = .ok q ∧ exec (.configWrite id index value) s = .next t ∧
          t.params.get q = value.toNat ∧ (∀ q', q' ≠ q → t.params.get q' = s.params.get q') ∧
          t = ((s.withParams t.params).withDesk t.desk).answered 0x84#8
            (0#8 :: (u16 (s.params.get q) ++ u16 value.toNat)) ∧
          (id ≠ 12#8 → t.desk = s.desk) ∧
          (id = 12#8 → t.desk = { s.desk with terminals := t.desk.terminals } ∧ ∀ a : Fin 4,
            t.terminal a =
              if value.getLsbD a.val then
                (if (s.terminal a).state = .disabled then
                  { s.terminal a with state := .offline, consecutive := 0, due := true }
                else s.terminal a)
              else if (s.terminal a).state = .disabled ∨ s.desk.exchangeWith a = true then s.terminal a
              else { s.terminal a with state := .disabled, slot := none, due := false })

/-- R184 to R186: the events of the line. A damaged frame is counted bad and answered LINK_ERROR with its kind, a length
above the limit the same with kind 0, an unknown kind UNKNOWN_KIND with its top bit set; a sync byte begins a frame,
overlapped where a request is in hand; a broken frame is counted; the last byte of a reply ends the request in hand. In
HUNT a frame-ending command stands for its whole frame, which is the model's choice (log 7), and so is that
an UNKNOWN_KIND with a kind that names a request is answered as any other (log 19). -/
def Obligations.line_events_do_what_they_say : Prop :=
  ∀ s : State, s.linkUp = true →
    (s.link.overlaps = false → ∀ k : Byte,
      exec (.linkError k) s = .next ((s.withLink { s.link with bad := bump s.link.bad }).answered 0xFF#8 [7#8, k]) ∧
      exec .lengthOverLimit s =
        .next ((s.withLink { s.link with bad := bump s.link.bad }).answered 0xFF#8 [7#8, 0#8]) ∧
      exec (.unknownKind k) s = .next (s.answered (k ||| 0x80#8) [8#8])) ∧
    (s.link.receiver = .hunt →
      exec .syncByte s = .next (s.withLink { s.link with receiver := .inFrame s.link.inHand.isSome })) ∧
    (∀ o, s.link.receiver = .inFrame o →
      exec .brokenFrame s = .next (s.withLink { s.link with receiver := .hunt, broken := bump s.link.broken })) ∧
    (∀ r, s.link.inHand = some r → r.thenStart = false →
      exec .replyEnd s = .next (s.withLink { s.link with inHand := none }))

/-- R185, R188, R189: the frame of a well-formed request, every field at every value its encoding admits, is received as
that request. No step calls `receive`: the rows of the table stand for whole frames (log 1). -/
def Obligations.frames_read_back_as_their_requests : Prop :=
  ∀ (i : Instr) (k : Byte) (p : Bytes), i.wellFormed = true → i.request = some (k, p) → receive (frame k p) = some i

/-- R185, R186, R189: a whole frame with a wrong CRC is received as LINK_ERROR with its kind, a sound one whose kind names
no request as UNKNOWN_KIND, a sound one whose length its kind does not allow as LINK_ERROR, and a length above 1,040
ends the frame at once. -/
def Obligations.faulty_frames_are_named : Prop :=
  (∀ (k : Byte) (p crc : Bytes), p.length ≤ 1040 → crc.length = 2 → crc ≠ bytes16 (crc16 (lengthBytes p ++ k :: p)) →
    receive (0xC3#8 :: (lengthBytes p ++ k :: p ++ crc)) = some (.linkError k)) ∧
  (∀ (k : Byte) (p : Bytes), p.length ≤ 1040 → namesRequest k = false → receive (frame k p) = some (.unknownKind k)) ∧
  (∀ (k : Byte) (p : Bytes), p.length ≤ 1040 → namesRequest k = true →
    (∀ i : Instr, i.wellFormed = true → i.request ≠ some (k, p)) → receive (frame k p) = some (.linkError k)) ∧
  ∀ n1 n0 : Byte, 1040 < n1.toNat * 256 + n0.toNat → receive [0xC3#8, n1, n0] = some .lengthOverLimit

/-! ### The clock -/

/-- R26 to R29, R32, R175, R176: a sub-tick raises the prescaler, and at 1,023 wraps it; a wrap with the held-second flag set is
swallowed, and any other counts one second, carries the date at midnight and is handed on while the blocks run: to the
Ring Unit and the Notice Queue always, to the Bell Sequencer while the clock is SET and no rollover is in flight, and to
the Day Controller as a date change at midnight while the clock is SET. That SECOND_COUNT_UP is that wrap, and changes
nothing where none is due, is the model's choice (log 4, log 15); the lists of count-ups handed on are the model's (log
3), and that RESET_N low in FULL hands none on is its deduction (log 18). A rollover
stands at stage 1 while a sweep is queued or in flight, and begins at stage 2 where none is (R176, log 26). -/
def Obligations.sub_ticks_make_seconds : Prop :=
  ∀ s : State, s.clockOk = true →
    (s.clock.prescaler < 1023 →
      exec .subTick s = .next (s.withClock { s.clock with prescaler := s.clock.prescaler + 1 }) ∧
      exec .secondCountUp s = .next s) ∧
    (s.clock.prescaler = 1023 → s.clock.held = true →
      exec .subTick s = .next (s.withClock { s.clock with prescaler := 0, held := false }) ∧
      exec .secondCountUp s = .next (s.withClock { s.clock with prescaler := 0, held := false })) ∧
    (s.clock.prescaler = 1023 → s.clock.held = false →
      ∃ t, exec .subTick s = .next t ∧ exec .secondCountUp s = .next t ∧
        t.clock = { s.clock with
          prescaler := 0
          seconds := (s.clock.seconds + 1) % 86400
          date := if s.clock.seconds = 86399 then (s.clock.date + 1) % 36525 else s.clock.date } ∧
        t = ((s.withClock t.clock).withCountUps t.countUps).withDays { s.days with rollover := t.days.rollover } ∧
        (s.blocksRun = false → t.countUps = s.countUps ∧ t.days = s.days) ∧
        (s.blocksRun = true →
          t.countUps.waits = s.countUps.waits ++ [t.now] ∧ t.countUps.releases = s.countUps.releases ++ [t.now] ∧
          t.countUps.timeouts = s.countUps.timeouts ++ [t.now] ∧
          t.countUps.bells =
            (if s.clock.isSet = true ∧ t.days.rollover = none then s.countUps.bells ++ [t.now] else s.countUps.bells) ∧
          t.days.rollover =
            if s.clock.seconds = 86399 ∧ s.clock.isSet = true then
              (match s.days.rollover with
                | none =>
                  some { old := s.days.today, new := t.clock.date
                         stage := if s.sweep.queue = [] ∧ s.sweep.flight = none then 2 else 1
                         position := 0, termStart := none, selections := none }
                | some r => if r.stage = 1 then some { r with new := t.clock.date } else some r)
            else s.days.rollover))

/-- R30, R31: day numbers and dates correspond one to one over 2000-01-01 to 2099-12-31, leap years included. -/
def Obligations.day_numbers_are_dates : Prop :=
  (∀ y m d : Nat, y ≤ 99 → 1 ≤ m → m ≤ 12 → 1 ≤ d → d ≤ monthLength y m →
    dayNumber y m d ≤ 36524 ∧ yearOf (dayNumber y m d) = y ∧ monthOf (dayNumber y m d) = m ∧
      dayOfMonth (dayNumber y m d) = d) ∧
  (∀ n : Nat, n ≤ 36524 →
    yearOf n ≤ 99 ∧ 1 ≤ monthOf n ∧ monthOf n ≤ 12 ∧ 1 ≤ dayOfMonth n ∧ dayOfMonth n ≤ monthLength (yearOf n) (monthOf n) ∧
      dayNumber (yearOf n) (monthOf n) (dayOfMonth n) = n)

/-- R34 to R36, R56 to R58: a CLOCK_SET with good fields is taken, its day clamped to the month, and the clock is SET with
prescaler 0 and no held second. It starts a rollover when the clock was UNSET or showed another date; on the same date a
backward step beyond the re-ring limit re-arms the fired PLAIN entries that now lie ahead, and any other step changes no
running plan. That the old date of the rollover is today, not the date shown before the set, is a deduction (log 17);
that the reply's weekday takes one byte is the model's choice (log 6). A rollover waits at stage 1 while a sweep is queued
or in flight, and begins at stage 2 where none is (R176, log 26). -/
def Obligations.clock_set_is_applied : Prop :=
  ∀ (s : State) (y m d h mi se : Nat), s.takesFrames = true → s.rolling = false →
    y ≤ 99 → 1 ≤ m → m ≤ 12 → 1 ≤ d → d ≤ 99 → h ≤ 23 → mi ≤ 59 → se ≤ 59 →
    let day := min d (monthLength y m)
    let date := dayNumber y m day
    let seconds := h * 3600 + mi * 60 + se
    let starts := s.clock.isSet = false ∨ s.clock.date ≠ date
    ∃ t, exec (.clockSet { year := toBcd y, month := toBcd m, day := toBcd d }
        { hour := toBcd h, minute := toBcd mi, second := toBcd se }) s = .next t ∧
      t = (((s.withClock { date := date, seconds := seconds, prescaler := 0, held := false, isSet := true }).withRunning
        t.running).withDays { s.days with rollover := t.days.rollover }).answered 0x91#8
          [if monthLength y m < d then 1#8 else 0#8, toBcd y, toBcd m, toBcd day, toBcd h, toBcd mi, toBcd se,
           BitVec.ofNat 8 ((date + 5) % 7), if starts then 1#8 else 0#8] ∧
      (starts → t.running = s.running ∧ t.days.rollover =
        some { old := s.days.today, new := date, stage := if s.sweep.queue = [] ∧ s.sweep.flight = none then 2 else 1
               position := 0, termStart := none, selections := none }) ∧
      (¬ starts → t.days.rollover = none ∧ ∀ a : Track,
        t.plan a =
          if seconds + s.params.reRing < s.clock.seconds then
            { s.plan a with entries := (s.plan a).entries.map fun e =>
                if e.entry.kind = .plain ∧ e.state ≠ .pending ∧ (seconds : Int) < e.effective then
                  { e with state := .pending }
                else e }
          else s.plan a)

/-- R34: CLOCK_SET is BUSY while a rollover is in flight. Otherwise its fields are checked in order, and one whose first bad
field is n is answered BAD_FIELD with n and changes nothing: a digit above 9, a month outside 1 to 12, a day of 0, an hour
above 23, a minute or a second above 59. A set that passes every check is taken: the clock shows its date, the day clamped
to the month, and its time, with prescaler 0, no held second and the state SET, and the reply is OK, or CLAMPED where the
day was clamped. -/
def Obligations.clock_set_checks_its_fields_in_order : Prop :=
  ∀ (s : State) (d : DateField) (h : TimeField), s.takesFrames = true →
    let digits (b : Byte) := b.toNat / 16 ≤ 9 ∧ b.toNat % 16 ≤ 9
    let value (b : Byte) := b.toNat / 16 * 10 + b.toNat % 16
    let bad (n : Nat) := exec (.clockSet d h) s = .next (s.answered 0x91#8 [3#8, BitVec.ofNat 8 n])
    let ok0 := digits d.year
    let ok1 := digits d.month ∧ 1 ≤ value d.month ∧ value d.month ≤ 12
    let ok2 := digits d.day ∧ 1 ≤ value d.day
    let ok3 := digits h.hour ∧ value h.hour ≤ 23
    let ok4 := digits h.minute ∧ value h.minute ≤ 59
    let ok5 := digits h.second ∧ value h.second ≤ 59
    let last := monthLength (value d.year) (value d.month)
    (s.rolling = true → exec (.clockSet d h) s = .next (s.answered 0x91#8 [2#8])) ∧
    (s.rolling = false →
      (¬ ok0 → bad 0) ∧ (ok0 → ¬ ok1 → bad 1) ∧ (ok0 → ok1 → ¬ ok2 → bad 2) ∧ (ok0 → ok1 → ok2 → ¬ ok3 → bad 3) ∧
      (ok0 → ok1 → ok2 → ok3 → ¬ ok4 → bad 4) ∧ (ok0 → ok1 → ok2 → ok3 → ok4 → ¬ ok5 → bad 5) ∧
      (ok0 → ok1 → ok2 → ok3 → ok4 → ok5 →
        ∃ t r fields, exec (.clockSet d h) s = .next t ∧
          t.clock = { date := dayNumber (value d.year) (value d.month) (min (value d.day) last)
                      seconds := value h.hour * 3600 + value h.minute * 60 + value h.second
                      prescaler := 0, held := false, isSet := true } ∧
          t.link.inHand = some r ∧ r.kind = 0x91#8 ∧
          r.payload = (if last < value d.day then 1#8 else 0#8) :: fields))

/-- R37, R38: a trim is refused while the clock is UNSET, and otherwise is applied, during a rollover too, by the first of
the four cases that matches Q = P + T. The count-up of the first case is told as what SECOND_COUNT_UP
does at prescaler 1,023: that the row is that wrap is a deduction (log 15). The two bytes of the prescaler in the reply are
the model's choice (log 6). -/
def Obligations.clock_trim_has_four_cases : Prop :=
  ∀ (s : State) (trim : Byte), s.takesFrames = true →
    let q : Int := (s.clock.prescaler : Int) + trim.toInt
    let after (n : Nat) (held : Bool) := [BitVec.ofNat 8 (n / 256), BitVec.ofNat 8 n, if held then 1#8 else 0#8]
    (s.clock.isSet = false → exec (.clockTrim trim) s = .next (s.answered 0x92#8 [6#8])) ∧
    (s.clock.isSet = true →
      (1024 ≤ q → s.clock.held = false →
        ∃ u, exec .secondCountUp (s.withClock { s.clock with prescaler := 1023 }) = .next u ∧
          exec (.clockTrim trim) s =
            .next ((u.withClock { u.clock with prescaler := (q - 1024).toNat }).answered 0x92#8
              (0#8 :: trim :: after (q - 1024).toNat false))) ∧
      (1024 ≤ q → s.clock.held = true →
        exec (.clockTrim trim) s =
          .next ((s.withClock { s.clock with prescaler := (q - 1024).toNat, held := false }).answered 0x92#8
            (0#8 :: trim :: after (q - 1024).toNat false))) ∧
      (0 ≤ q → q ≤ 1023 →
        exec (.clockTrim trim) s =
          .next ((s.withClock { s.clock with prescaler := q.toNat }).answered 0x92#8
            (0#8 :: trim :: after q.toNat s.clock.held))) ∧
      (q < 0 → s.clock.held = false →
        exec (.clockTrim trim) s =
          .next ((s.withClock { s.clock with prescaler := (q + 1024).toNat, held := true }).answered 0x92#8
            (0#8 :: trim :: after (q + 1024).toNat true))) ∧
      (q < 0 → s.clock.held = true →
        exec (.clockTrim trim) s =
          .next ((s.withClock { s.clock with prescaler := 0 }).answered 0x92#8
            (1#8 :: BitVec.ofInt 8 (-(s.clock.prescaler : Int)) :: after 0 true))))

/-- R25, R27, R34, R38: every step keeps the date, the seconds of day and the prescaler in their ranges. -/
def Obligations.clock_stays_in_range : Prop :=
  ∀ s t : State, s.clockOk = true → step s = .next t → t.clockOk = true

/-! ### The roll -/

/-- R3 to R6: one record of ROLL_WRITE. A bad one is refused as record 1. A good one takes its slot and its place in the
card index: a new pupil starts with cleared marks and no tally, a pupil of the same track keeps both, and a pupil moved to
another track has each mark brought into line with the track's sessions, a mark that goes losing its charge and an
UNEXPLAINED one its ABSENCE notice. -/
def Obligations.roll_write_writes_a_record : Prop :=
  ∀ (s : State) (i : BitVec 16) (r : RollItem), s.takesFrames = true → s.rolling = false →
    let good := i.toNat < 2400 ∧ r.card ≠ 0#32 ∧ 1 ≤ r.number.toNat ∧ r.number.toNat ≤ 9999999 ∧ r.track.toNat < 6 ∧
      r.contact.toNat ≤ 1 ∧ (s.slotOfCard r.card.toNat = none ∨ s.slotOfCard r.card.toNat = some i.toNat)
    (¬ good → exec (.rollWrite i [r]) s = .next (s.answered 0xA0#8 [3#8, 1#8])) ∧
    (good → ∃ t q, exec (.rollWrite i [r]) s = .next t ∧
      t = (((s.withRoll t.roll).withCards t.cards).withNotices t.notices).answered 0xA0#8 [0#8, 1#8] ∧
      t.pupilAt i.toNat = some q ∧ q.card = r.card.toNat ∧ q.number = r.number.toNat ∧ q.track.val = r.track.toNat ∧
      q.contact = (r.contact == 1#8) ∧
      (∀ j, j ≠ i.toNat → t.pupilAt j = s.pupilAt j) ∧
      (∀ c, t.slotOfCard c =
        if c = r.card.toNat then some i.toNat
        else if (s.pupilAt i.toNat).map Pupil.card = some c then none
        else s.slotOfCard c) ∧
      (s.pupilAt i.toNat = none →
        q.lateCount = 0 ∧ q.lateMinutes = 0 ∧ t.notices = s.notices ∧
        ∀ k, q.mark k = clearedMark (if (s.plan q.track).hasSession k then .none else .notRequired)) ∧
      (∀ p, s.pupilAt i.toNat = some p → p.track = q.track →
        q.lateCount = p.lateCount ∧ q.lateMinutes = p.lateMinutes ∧ q.mark1 = p.mark1 ∧ q.mark2 = p.mark2 ∧
        t.notices = s.notices) ∧
      (∀ p, s.pupilAt i.toNat = some p → p.track ≠ q.track →
        let goes (k : Session) := !(s.plan q.track).hasSession k && (p.mark k).value != .notRequired
        (∀ k, q.mark k =
          if goes k then clearedMark .notRequired
          else if (s.plan q.track).hasSession k && (p.mark k).value == .notRequired then clearedMark .none
          else p.mark k) ∧
        q.lateCount = p.lateCount - ((if goes .s1 && p.mark1.counted then 1 else 0) +
          (if goes .s2 && p.mark2.counted then 1 else 0)) ∧
        q.lateMinutes = p.lateMinutes - ((if goes .s1 then p.mark1.charge else 0) +
          (if goes .s2 then p.mark2.charge else 0)) ∧
        let first := if goes .s1 && p.mark1.value == .unexplained then
            s.notices.withdraw i.toNat s.days.today .s1 false else s.notices
        t.notices = if goes .s2 && p.mark2.value == .unexplained then
            first.withdraw i.toNat s.days.today .s2 false else first))

/-- R3: the records of a frame are taken in order, each in the slot after the one before; a frame of none or of more than
24 is answered BAD_FIELD with index 0. A first record that is refused ends the frame; after a first record that is
written, the rest of the frame is what a frame of the rest would be, its count and its index one higher. -/
def Obligations.roll_write_takes_records_in_order : Prop :=
  (∀ (s : State) (i : BitVec 16) (l : List RollItem), s.takesFrames = true → s.rolling = false →
    l = [] ∨ 24 < l.length → exec (.rollWrite i l) s = .next (s.answered 0xA0#8 [3#8, 0#8])) ∧
  ∀ (s t : State) (i : BitVec 16) (r : RollItem) (l : List RollItem), s.takesFrames = true → s.rolling = false →
    l ≠ [] → l.length < 24 → exec (.rollWrite i [r]) s = .next t →
    (t.link.inHand = some { kind := 0xA0#8, payload := [3#8, 1#8], thenStart := false } →
      exec (.rollWrite i (r :: l)) s = .next t) ∧
    (t.link.inHand = some { kind := 0xA0#8, payload := [0#8, 1#8], thenStart := false } →
      ∃ (u : State) (n : Nat), (exec (.rollWrite (i + 1#16) l) (t.withLink s.link) = .next (u.answered 0xA0#8 [0#8, BitVec.ofNat 8 n]) ∧
          exec (.rollWrite i (r :: l)) s = .next (u.answered 0xA0#8 [0#8, BitVec.ofNat 8 (n + 1)])) ∨
        (exec (.rollWrite (i + 1#16) l) (t.withLink s.link) = .next (u.answered 0xA0#8 [3#8, BitVec.ofNat 8 n]) ∧
          exec (.rollWrite i (r :: l)) s = .next (u.answered 0xA0#8 [3#8, BitVec.ofNat 8 (n + 1)])))

/-- R7, R166: ROLL_REMOVE takes the pupil's book entries, off-site entry, card and record away, withdraws the pupil's
HELD and READY notices, makes the HANDED ones SILENT, and touches no other pupil's. -/
def Obligations.roll_remove_takes_the_pupil_out : Prop :=
  ∀ (s : State) (i : BitVec 16), s.takesFrames = true → s.rolling = false →
    (2400 ≤ i.toNat → exec (.rollRemove i) s = .next (s.answered 0xA1#8 [3#8, 0#8])) ∧
    (i.toNat < 2400 → s.pupilAt i.toNat = none → exec (.rollRemove i) s = .next (s.answered 0xA1#8 [4#8])) ∧
    (∀ p, i.toNat < 2400 → s.pupilAt i.toNat = some p →
      ∃ t, exec (.rollRemove i) s = .next t ∧
        t = (((((s.withRoll t.roll).withCards t.cards).withNotices t.notices).withBook
          (s.book.filter fun e => e.pupil ≠ i.toNat)).withArrivals
            { s.arrivals with offsite := s.arrivals.offsite.filter fun e => e.pupil ≠ i.toNat }).answered 0xA1#8 [0#8] ∧
        (∀ j, t.pupilAt j = if j = i.toNat then none else s.pupilAt j) ∧
        (∀ c, t.slotOfCard c = if c = p.card then none else s.slotOfCard c) ∧
        t.notices.list = ((s.notices.list.filter fun n => n.pupil ≠ i.toNat || n.isHanded).map fun n =>
          if n.pupil = i.toNat then n.supersede .silent else n) ∧
        (s.notices.counters.withdrawn + s.notices.list.length ≤ 65535 →
          t.notices.counters = { s.notices.counters with
            withdrawn := s.notices.counters.withdrawn +
              (s.notices.list.filter fun n => n.pupil = i.toNat && !n.isHanded).length }) ∧
        t.notices.nextCreation = s.notices.nextCreation ∧ t.notices.order = s.notices.order ∧
        t.notices.hold = s.notices.hold)

/-- R21, R178: TERM_CLEAR, and stage 3 of a rollover whose term-start finding is yes, clear every tally and every charge
and keep the marks' values; stage 3 with the finding no clears nothing. Stage 3 ends with the six selections of R172: that
they are made there, and not at the start of stage 4 where R179 has them, is the model's choice (log 2). -/
def Obligations.tallies_are_cleared : Prop :=
  ∀ s : State,
    let cleared := s.roll.map fun e => (e.1, { e.2 with
      mark1 := { e.2.mark1 with charge := 0, counted := false }
      mark2 := { e.2.mark2 with charge := 0, counted := false }
      lateCount := 0
      lateMinutes := 0 })
    (s.takesFrames = true → s.rolling = false →
      exec .termClear s = .next ((s.withRoll cleared).answered 0xA3#8 [0#8])) ∧
    (∀ r, s.blocksRun = true → s.days.rollover = some r → r.stage = 3 →
      ∃ v : Vector (Option (Fin 16)) 6, (∀ a : Track, v[a] = s.selection r.new a) ∧
        exec .rolloverStage3 s = .next
          ((if r.termStart = some true then s.withRoll cleared else s).withDays
            { s.days with rollover := some { r with stage := 4, selections := some v } }))

/-- R11, R13 to R15, R19, R20, R22 to R24: a MARK_SET that its source may make replaces the mark: the old charge is reversed, the new
mark is written with the delivered flag carried over, a late mark that is not explained is charged, a charge that makes the
late count a multiple of the pattern parameter offers PATTERN, and a mark that leaves UNEXPLAINED withdraws its ABSENCE
notice and, by an arrival after that notice was delivered, offers ARRIVED; no other pupil changes, nothing outside the
roll, the notices and the pending LOSS class does, and LOSS is raised just where an offer finds the queue full. A MARK_SET whose first bad field is n is
answered BAD_FIELD with n, one for an empty slot NO_SUCH, and one that its source may not make STATE. -/
def Obligations.mark_set_replaces_the_mark : Prop :=
  (∀ (s : State) (i : BitVec 16) (session source value minutes reason explained : Byte),
    s.takesFrames = true → s.rolling = false →
    let refused (p : Bytes) :=
      exec (.markSet i session source value minutes reason explained) s = .next (s.answered 0xA4#8 p)
    let ok1 := session = 1#8 ∨ session = 2#8
    let ok2 := source = 2#8 ∨ source = 3#8
    let ok3 := (source = 2#8 ∧ (value = 1#8 ∨ value = 2#8)) ∨ (source = 3#8 ∧ value.toNat ≤ 5)
    let ok4 := value = 2#8 ∨ value = 3#8 → minutes ≠ 0#8
    let ok5 := value = 4#8 → reason.toNat ≤ 5
    let ok6 := source = 3#8 → explained.toNat ≤ 1
    (2400 ≤ i.toNat → refused [3#8, 0#8]) ∧
    (i.toNat < 2400 →
      (¬ ok1 → refused [3#8, 1#8]) ∧ (ok1 → ¬ ok2 → refused [3#8, 2#8]) ∧ (ok1 → ok2 → ¬ ok3 → refused [3#8, 3#8]) ∧
      (ok1 → ok2 → ok3 → ¬ ok4 → refused [3#8, 4#8]) ∧ (ok1 → ok2 → ok3 → ok4 → ¬ ok5 → refused [3#8, 5#8]) ∧
      (ok1 → ok2 → ok3 → ok4 → ok5 → ¬ ok6 → refused [3#8, 6#8]) ∧
      (ok1 → ok2 → ok3 → ok4 → ok5 → ok6 → s.pupilAt i.toNat = none → refused [4#8]) ∧
      ∀ p k, ok1 → ok2 → ok3 → ok4 → ok5 → ok6 → s.pupilAt i.toNat = some p → [session] = encSession k →
        (source = 2#8 → ¬ ((s.plan p.track).day = .active ∧ (s.plan p.track).session k = some .opened ∧
          ((p.mark k).value = .none ∨ (p.mark k).source = .teacher)) → refused [6#8]) ∧
        (source = 3#8 → (p.mark k).value = .notRequired ∨ (value = 0#8 ∧
          (s.plan p.track).session k ≠ some .notOpen ∧ (s.plan p.track).session k ≠ some .opened) → refused [6#8]))) ∧
  ∀ (s : State) (i : BitVec 16) (p : Pupil) (k : Session) (a : MarkAuthor) (v : MarkValue)
      (session source value minutes reason explained : Byte),
    s.takesFrames = true → s.rolling = false → i.toNat < 2400 → s.pupilAt i.toNat = some p →
    [session] = encSession k → source = (match a with | .teacher => 2#8 | .office => 3#8) → [value] = encMarkValue v →
    (v = .late ∨ v = .lateClosed → minutes ≠ 0#8) → (v = .authorised → (reasonOf reason).isSome = true) →
    (a = .teacher →
      (v = .present ∨ v = .late) ∧ (s.plan p.track).day = .active ∧ (s.plan p.track).session k = some .opened ∧
        ((p.mark k).value = .none ∨ (p.mark k).source = .teacher)) →
    (a = .office →
      v ≠ .notRequired ∧ explained.toNat ≤ 1 ∧ (p.mark k).value ≠ .notRequired ∧
        (v = .none → (s.plan p.track).session k = some .notOpen ∨ (s.plan p.track).session k = some .opened)) →
    let late := v == .late || v == .lateClosed
    let excused := late && a == .office && explained == 1#8
    let charged := late && !excused
    let m := if late then minutes.toNat else 0
    let count := p.lateCount - (if (p.mark k).counted then 1 else 0)
    let sum := p.lateMinutes - (p.mark k).charge
    let mark : Mark :=
      { value := v
        source := if v = .none then .none else (match a with | .teacher => .teacher | .office => .office)
        minutes := m
        charge := if charged then min m (65535 - sum) else 0
        counted := charged && decide (count < 255)
        explained := excused
        reason := if v = .authorised then reasonOf reason else none
        delivered := (p.mark k).delivered }
    let new : Pupil := { p with
      lateCount := if charged then min 255 (count + 1) else count
      lateMinutes := if charged then min 65535 (sum + m) else sum }.withMark k mark
    let arrives := v == .present || v == .late || v == .lateClosed
    let leaves := (p.mark k).value == .unexplained && v != .unexplained
    let offered (q : NoticeQueue) (made : Bool) (kind : NoticeKind) : OfferResult :=
      if made && p.contact then
        q.take s.clock.seconds { kind := kind, pupil := i.toNat, number := p.number, date := s.days.today, release := none }
      else { queue := q, loss := false, created := none }
    let pattern := offered s.notices
      (mark.counted && s.params.patternEvery ≠ 0 && new.lateCount % s.params.patternEvery = 0) (.pattern new.lateCount)
    let withdrawn := if leaves then pattern.queue.withdraw i.toNat s.days.today k arrives else pattern.queue
    let arrived := offered withdrawn (leaves && arrives && (p.mark k).delivered) (.arrived k)
    ∃ t, exec (.markSet i session source value minutes reason explained) s = .next t ∧
      t.pupilAt i.toNat = some new ∧
      (∀ j, j ≠ i.toNat → t.pupilAt j = s.pupilAt j) ∧
      t.notices = arrived.queue ∧
      t.link.raised = s.link.raised ||| (if pattern.loss || arrived.loss then 0x20#8 else 0#8) ∧
      t = (((s.withRoll t.roll).withNotices t.notices).withLink { s.link with raised := t.link.raised }).answered 0xA4#8
        (0#8 :: encMark mark)

/-- R1, R3, R5, R7: every step keeps the roll and the card index in their one form and in agreement: each record's card
leads to its slot, and each entry of the index to a record that holds the card. -/
def Obligations.card_index_agrees_with_the_roll : Prop :=
  ∀ s t : State, s.rollOk = true → step s = .next t → t.rollOk = true

/-- R9, R19, R20: every step keeps the fields of each mark in agreement with its value, the tallies in range, and in each
tally at least what the pupil's two marks have charged, so that no reversal falls below 0. -/
def Obligations.tallies_hold_their_charges : Prop :=
  ∀ s t : State, s.talliesOk = true → step s = .next t → t.talliesOk = true

/-- R4, R6, R9, R18, R179: every step keeps each mark NOT_REQUIRED just when the pupil's track has no such session on the
day the mark stands for, the slots a rollover has walked taking the new day's selections. -/
def Obligations.marks_are_not_required_just_when_they_should_be : Prop :=
  ∀ s t : State, s.notRequiredOk = true → step s = .next t → t.notRequiredOk = true

/-! ### Bell plans and the running day -/

/-- R41 to R44: a list of up to 40 entries with the structure of R42 is stored whole by PLAN_LOAD, in frame order, and
PLAN_READ gives it back; no other plan changes. A plan loaded empty reads as NO_SUCH. A list too long is answered
BAD_FIELD with 41, and a shorter one BAD_FIELD with the number of its first entry that is out of range or breaks the
structure. PLAN_READ is answered at any time, during a rollover too: a plan out of range with BAD_FIELD and 0, an empty one
with NO_SUCH, and any other with its entries in order. -/
def Obligations.plans_are_stored_and_read_back : Prop :=
  (∀ (s : State) (plan : Byte) (items : List PlanItem), s.takesFrames = true → s.rolling = false →
    let refused (n : Byte) := exec (.planLoad plan items) s = .next (s.answered 0xB0#8 [3#8, n])
    (16 ≤ plan.toNat → refused 0#8) ∧ (plan.toNat < 16 → 40 < items.length → refused 41#8) ∧
    (∀ (l : List PlanEntry) (j : Nat), plan.toNat < 16 → items = l.map PlanEntry.item → l.length ≤ 40 → j < l.length →
      (∀ e ∈ l, e.time < Config.daySeconds) → PlanValid (l.take j) → ¬ PlanValid (l.take (j + 1)) →
      refused (BitVec.ofNat 8 (j + 1))) ∧
    (∀ (l : List PlanEntry) (x : PlanItem) (rest : List PlanItem), plan.toNat < 16 →
      items = l.map PlanEntry.item ++ x :: rest → items.length ≤ 40 → PlanValid l →
      (∀ t, t < Config.daySeconds → x.time ≠ timeField t) ∨ 3 < x.kind.toNat ∨ 16 ≤ x.pattern.toNat ∨
        ((x.kind = 1#8 ∨ x.kind = 2#8) ∧ x.session ≠ 1#8 ∧ x.session ≠ 2#8) →
      refused (BitVec.ofNat 8 (l.length + 1)))) ∧
  (∀ (s : State) (b : Byte), s.takesFrames = true →
    (16 ≤ b.toNat → exec (.planRead b) s = .next (s.answered 0xB1#8 [3#8, 0#8])) ∧
    ∀ n : Fin 16, b.toNat = n.val → exec (.planRead b) s = .next (s.answered 0xB1#8
      (if s.plans[n] = [] then [4#8]
      else 0#8 :: BitVec.ofNat 8 s.plans[n].length :: s.plans[n].flatMap encPlanEntry))) ∧
  ∀ (s : State) (n : Fin 16) (l : List PlanEntry), s.takesFrames = true → s.rolling = false → l.length ≤ 40 →
    PlanValid l →
    ∃ t, exec (.planLoad (BitVec.ofNat 8 n.val) (l.map PlanEntry.item)) s = .next t ∧
      t = (s.withPlans (s.plans.set n l)).answered 0xB0#8 [0#8, BitVec.ofNat 8 l.length] ∧
      exec (.planRead (BitVec.ofNat 8 n.val)) (t.withLink s.link) =
        .next ((s.withPlans (s.plans.set n l)).answered 0xB1#8
          (if l = [] then [4#8] else 0#8 :: BitVec.ofNat 8 l.length :: l.flatMap encPlanEntry))

/-- R59, R60: a TRACK_DELAY whose shift keeps every shifted entry in range and the plan in order shifts the PENDING entries
from the index on and nothing else, and answers with the first and last shifted effective times; a shift that does not is
answered BAD_FIELD with field 2, an ended day STATE, an index beyond the plan NO_SUCH, and a fired entry STATE. A track
or a minutes field out of range is BAD_FIELD. -/
def Obligations.track_delay_shifts_pending_entries : Prop :=
  (∀ (s : State) (track first minutes : Byte), s.takesFrames = true → s.rolling = false →
    let refused (n : Byte) := exec (.trackDelay track first minutes) s = .next (s.answered 0xB2#8 [3#8, n])
    (6 ≤ track.toNat → refused 0#8) ∧ (track.toNat < 6 → minutes.toInt < -60 ∨ 120 < minutes.toInt → refused 2#8)) ∧
  ∀ (s : State) (a : Track) (first minutes : Byte), s.takesFrames = true → s.rolling = false →
    -60 ≤ minutes.toInt → minutes.toInt ≤ 120 →
    let r := s.plan a
    let shift (e : RunningEntry) : RunningEntry := { e with delay := e.delay + minutes.toInt * 60 }
    let shifted := r.entries.mapIdx fun j e => if first.toNat ≤ j ∧ e.state = .pending then shift e else e
    let result (p : Bytes) := exec (.trackDelay (BitVec.ofNat 8 a.val) first minutes) s = .next (s.answered 0xB2#8 p)
    (r.day = .ended → result [6#8]) ∧
    (r.day = .active → r.entries[first.toNat]? = none → result [4#8]) ∧
    (∀ e, r.day = .active → r.entries[first.toNat]? = some e → e.state ≠ .pending → result [6#8]) ∧
    (∀ e, r.day = .active → r.entries[first.toNat]? = some e → e.state = .pending →
      let fits := inOrder shifted = true ∧ ∀ (j : Nat) (f : RunningEntry), first.toNat ≤ j → r.entries[j]? = some f →
        f.state = .pending → -3600 ≤ (shift f).delay ∧ (shift f).delay ≤ 7200 ∧ 0 ≤ (shift f).effective ∧
          (shift f).effective ≤ 86399
      (¬ fits → result [3#8, 2#8]) ∧
      (fits → ∃ last, (shifted.filter fun f => f.state = .pending).getLast? = some last ∧
        exec (.trackDelay (BitVec.ofNat 8 a.val) first minutes) s =
          .next ((s.withPlan a { r with entries := shifted }).answered 0xB2#8
            (0#8 :: (encTime (shift e).effectiveSeconds ++ encTime last.effectiveSeconds)))))

/-- R61, R62: a TRACK_INSERT of 1 to 4 good entries after now, with room for them, into a plan in order: each new entry
stands at the index replied, behind every entry of the same time that was there or was inserted before it, the old
entries keep their order, and the plan stays in order. A track out of range, an empty list and one of more than 4 are
BAD_FIELD with 0, an ended day is STATE, the first bad entry is BAD_FIELD with its number, and no room is FULL. That the
indexes replied are those held when all the entries are placed is a deduction (log 11). -/
def Obligations.track_insert_places_new_entries : Prop :=
  (∀ (s : State) (track : Byte) (items : List InsertItem), s.takesFrames = true → s.rolling = false →
    let refused (p : Bytes) := exec (.trackInsert track items) s = .next (s.answered 0xB3#8 p)
    let good (x : InsertItem) := x.pattern.toNat < 16 ∧ ∃ t, x.time = timeField t ∧ s.clock.seconds < t ∧ t ≤ 86399
    (6 ≤ track.toNat ∨ items = [] ∨ 4 < items.length → refused [3#8, 0#8]) ∧
    ∀ a : Track, track.toNat = a.val → items ≠ [] → items.length ≤ 4 →
      ((s.plan a).day = .ended → refused [6#8]) ∧
      (∀ (j : Nat) (x : InsertItem), (s.plan a).day = .active → items[j]? = some x → (∀ y ∈ items.take j, good y) →
        ¬ good x → refused [3#8, BitVec.ofNat 8 (j + 1)]) ∧
      ((s.plan a).day = .active → (∀ x ∈ items, good x) →
        44 < (s.plan a).entries.length + items.length ∨ 4 < (s.plan a).insertedCount + items.length →
        refused [5#8])) ∧
  ∀ (s : State) (a : Track) (l : List (Nat × BitVec 8 × Fin 16)), s.takesFrames = true → s.rolling = false →
    (s.plan a).day = .active → inOrder (s.plan a).entries = true → l ≠ [] → l.length ≤ 4 →
    (∀ x ∈ l, s.clock.seconds < x.1 ∧ x.1 ≤ 86399) → (s.plan a).entries.length + l.length ≤ 44 →
    (s.plan a).insertedCount + l.length ≤ 4 →
    let item (x : Nat × BitVec 8 × Fin 16) : InsertItem :=
      { time := timeField x.1, zones := x.2.1, pattern := BitVec.ofNat 8 x.2.2.val }
    let fresh (x : Nat × BitVec 8 × Fin 16) : RunningEntry :=
      { entry := { time := x.1, kind := .plain, zones := x.2.1, pattern := x.2.2 }, delay := 0, state := .pending,
        inserted := true }
    ∃ r : List RunningEntry, ∃ at_ : List Nat,
      exec (.trackInsert (BitVec.ofNat 8 a.val) (l.map item)) s =
        .next ((s.withPlan a { s.plan a with entries := r }).answered 0xB3#8
          (0#8 :: BitVec.ofNat 8 l.length :: at_.map (BitVec.ofNat 8))) ∧
      at_.length = l.length ∧ (∀ (j i : Nat), at_[j]? = some i → r[i]? = (l[j]?).map fresh) ∧ at_.Nodup ∧
      List.Sublist (s.plan a).entries r ∧ r.length = (s.plan a).entries.length + l.length ∧ inOrder r = true ∧
      (∀ (j i n : Nat) (x : Nat × BitVec 8 × Fin 16) (f : RunningEntry), at_[j]? = some i → l[j]? = some x → i < n →
        r[n]? = some f → f.effective = (x.1 : Int) → ∃ j', j < j' ∧ at_[j']? = some n)

/-- R63: TRACK_SILENCE gives the track's silence flag the value carried, in any day state, and nothing else changes; a
track outside 0 to 5 is answered BAD_FIELD with field 0, and a value neither on nor off BAD_FIELD with field 1. -/
def Obligations.track_silence_sets_the_flag : Prop :=
  ∀ (s : State) (track value : Byte), s.takesFrames = true → s.rolling = false →
    (6 ≤ track.toNat → exec (.trackSilence track value) s = .next (s.answered 0xB4#8 [3#8, 0#8])) ∧
    ∀ a : Track, track.toNat = a.val →
      (1 < value.toNat → exec (.trackSilence track value) s = .next (s.answered 0xB4#8 [3#8, 1#8])) ∧
      (value.toNat ≤ 1 → exec (.trackSilence track value) s =
        .next ((s.withPlan a { s.plan a with silence := value == 1#8 }).answered 0xB4#8 [0#8]))

/-- R51 to R55: on a count-up while the clock is SET and no rollover is in flight, each track fires its PENDING entries up
to the first that is later than now. A fired entry is RUNG or PASSED by the four cases of R54, and every other entry keeps
its state. A fired SESSION_OPEN opens its session, a fired REGISTER_CLOSE makes it CLOSING and places its sweep request,
tracks in order, a fired DAY_CLOSE ends the day; the
rung entries send their ring requests, tracks in order and in index order; and of the event classes RING alone is raised,
just where an entry of a track not silenced passes beyond the window or one of those requests is degraded, a tonal one
that finds the chime line held and 8 jobs waiting. While the clock is UNSET or a rollover is in flight nothing fires, and
the count-up is gone (R32, R50). The count-up is the oldest that the model keeps for the Bell Sequencer (log 3). -/
def Obligations.due_entries_fire : Prop :=
  (∀ (s : State) (c : Stamp) (rest : List Stamp), s.blocksRun = true → s.countUps.bells = c :: rest →
    s.clock.isSet = false ∨ s.rolling = true →
    exec .entryFire s = .next (s.withCountUps { s.countUps with bells := rest })) ∧
  ∀ (s : State) (c : Stamp) (rest : List Stamp), s.blocksRun = true → s.countUps.bells = c :: rest →
    s.clock.isSet = true → s.rolling = false →
    let now := c.seconds
    let window := s.params.catchUp
    ∃ t, exec .entryFire s = .next t ∧
      t = ((((s.withCountUps { s.countUps with bells := rest }).withRunning t.running).withSweep
        { s.sweep with queue := t.sweep.queue }).withRing t.ring).withLink { s.link with raised := t.link.raised } ∧
      (∀ a : Track, (t.plan a).plan = (s.plan a).plan ∧ (t.plan a).silence = (s.plan a).silence ∧
        (t.plan a).entries.length = (s.plan a).entries.length ∧
        (∀ (j : Nat) (e : RunningEntry), (s.plan a).entries[j]? = some e →
          ∃ f, (t.plan a).entries[j]? = some f ∧ f = { e with state := f.state } ∧
            (¬ (s.plan a).fires now j → f.state = e.state) ∧
            ((s.plan a).fires now j → (s.plan a).rings now window j → f.state = .rung) ∧
            ((s.plan a).fires now j → ¬ (s.plan a).rings now window j → f.state = .passed)) ∧
        (∀ k, ((s.plan a).firesLast now (.registerClose k) (.sessionOpen k) → (t.plan a).session k = some .closing) ∧
          ((s.plan a).firesLast now (.sessionOpen k) (.registerClose k) → (t.plan a).session k = some .opened) ∧
          (¬ (s.plan a).firesLast now (.registerClose k) (.sessionOpen k) →
            ¬ (s.plan a).firesLast now (.sessionOpen k) (.registerClose k) →
            (t.plan a).session k = (s.plan a).session k)) ∧
        ((∃ j e, (s.plan a).fires now j ∧ (s.plan a).entries[j]? = some e ∧ e.entry.kind = .dayClose) →
          (t.plan a).day = .ended) ∧
        (¬ (∃ j e, (s.plan a).fires now j ∧ (s.plan a).entries[j]? = some e ∧ e.entry.kind = .dayClose) →
          (t.plan a).day = (s.plan a).day)) ∧
      (∃ fired : Track → List Nat, (∀ (a : Track) (j : Nat), j ∈ fired a ↔ (s.plan a).fires now j) ∧
        (∀ a, List.Pairwise (fun i j => i < j) (fired a)) ∧
        t.sweep.queue = s.sweep.queue ++ allTracks.flatMap fun a =>
          (fired a).filterMap fun j => ((s.plan a).entries[j]?).bind (sweepAsked a)) ∧
      (∃ rung : Track → List Nat, (∀ (a : Track) (j : Nat), j ∈ rung a ↔ (s.plan a).rings now window j) ∧
        (∀ a, List.Pairwise (fun i j => i < j) (rung a)) ∧
        let asked := allTracks.flatMap fun a => (rung a).map fun j => (a, j)
        let send (u : State) (x : Track × Nat) : State := match (s.plan x.1).entries[x.2]? with
          | some e => u.ringRequest e.entry.zones e.entry.pattern (.track x.1 x.2)
          | none => u
        let beyond : Prop := ∃ (a : Track) (j : Nat), (s.plan a).silence = false ∧ (s.plan a).firesBeyond now window j
        let degrades : Prop := ∃ before x after e, asked = before ++ x :: after ∧
          (s.plan x.1).entries[x.2]? = some e ∧
          let u := (before.foldl send s).ring
          let steps := if u.patterns[e.entry.pattern] = [] then u.patterns[0] else u.patterns[e.entry.pattern]
          (∃ p ∈ steps, p.tone ≠ 0) ∧ u.holder ≠ none ∧ 8 ≤ (u.jobs.filter fun m => m.play = none).length
        t.ring = (asked.foldl send s).ring ∧
        (beyond ∨ degrades → t.link.raised = s.link.raised ||| 0x10#8) ∧
        (¬ beyond → ¬ degrades → t.link.raised = s.link.raised))

/-- R45, R46, R59, R61: every step keeps each stored plan in order of time and each running plan in order of effective
time, with at most 44 entries, at most 4 of them inserted, and every delay and effective time in range. R45, R47, R48: and
every step keeps each track with a state for a session just where its running plan holds that SESSION_OPEN, as it does
where it holds that REGISTER_CLOSE (R42), with a stored plan named just where the plan has entries, and ENDED where it has
none. -/
def Obligations.plans_stay_in_order : Prop :=
  (∀ s t : State, s.plansOk = true → step s = .next t → t.plansOk = true) ∧
  ∀ s t : State, s.statesHeld = true → step s = .next t → t.statesHeld = true

/-! ### Rings -/

/-- R71: PATTERN_READ is answered at any time: a pattern out of range with BAD_FIELD and 0, an empty one with NO_SUCH, and
any other with its steps in order, the tonal flag and the duration in units of 50 ms. R68, R70: PATTERN_LOAD of up to 8
good steps replaces the whole pattern, an empty list erases it or gives pattern 0 its cold default, and PATTERN_READ then
gives the steps stored; no job and no other pattern changes. A pattern out of range is BAD_FIELD with 0, a list too long
BAD_FIELD with 9, and a shorter one BAD_FIELD with the number of its first step out of range. -/
def Obligations.patterns_are_stored_and_read_back : Prop :=
  let length (steps : List PatternStep) : Nat := (steps.map fun p => p.repeats * (p.onUnits + p.offUnits)).sum
  let shown (steps : List PatternStep) : Bytes :=
    if steps = [] then [4#8]
    else 0#8 :: BitVec.ofNat 8 steps.length :: ((steps.flatMap fun p =>
        [BitVec.ofNat 8 p.tone, BitVec.ofNat 8 p.onUnits, BitVec.ofNat 8 p.offUnits, BitVec.ofNat 8 p.repeats]) ++
      (if steps.any (fun p => p.tone ≠ 0) then 1#8 else 0#8) :: u16 (length steps))
  (∀ (s : State) (b : Byte), s.takesFrames = true →
    (16 ≤ b.toNat → exec (.patternRead b) s = .next (s.answered 0xC1#8 [3#8, 0#8])) ∧
    ∀ n : Fin 16, b.toNat = n.val → exec (.patternRead b) s = .next (s.answered 0xC1#8 (shown s.ring.patterns[n]))) ∧
  (∀ (s : State) (b : Byte) (l : List StepItem), s.takesFrames = true →
    let good (x : StepItem) := x.tone.toNat ≤ 8 ∧ 1 ≤ x.onUnits.toNat ∧ 1 ≤ x.repeats.toNat ∧ x.repeats.toNat ≤ 15
    let refused (n : Byte) := exec (.patternLoad b l) s = .next (s.answered 0xC0#8 [3#8, n])
    (16 ≤ b.toNat → refused 0#8) ∧
    (b.toNat < 16 → 8 < l.length → refused 9#8) ∧
    (∀ (j : Nat) (x : StepItem), b.toNat < 16 → l.length ≤ 8 → l[j]? = some x → (∀ y ∈ l.take j, good y) → ¬ good x →
      refused (BitVec.ofNat 8 (j + 1)))) ∧
  ∀ (s : State) (n : Fin 16) (l : List StepItem), s.takesFrames = true → l.length ≤ 8 →
    (∀ x ∈ l, x.tone.toNat ≤ 8 ∧ 1 ≤ x.onUnits.toNat ∧ 1 ≤ x.repeats.toNat ∧ x.repeats.toNat ≤ 15) →
    let steps : List PatternStep :=
      if l = [] ∧ n = 0 then [{ tone := 0, onUnits := 60, offUnits := 0, repeats := 1 }]
      else l.map fun x =>
        { tone := x.tone.toNat, onUnits := x.onUnits.toNat, offUnits := x.offUnits.toNat, repeats := x.repeats.toNat }
    let u := s.withRing { s.ring with patterns := s.ring.patterns.set n steps }
    exec (.patternLoad (BitVec.ofNat 8 n.val) l) s =
      .next (u.answered 0xC0#8 (0#8 :: BitVec.ofNat 8 steps.length :: u16 (length steps))) ∧
    exec (.patternRead (BitVec.ofNat 8 n.val)) u = .next (u.answered 0xC1#8 (shown steps))

/-- R72 to R74, R76, R77: the four outcomes of RING_NOW, where no job still bears the next job number. A relay-only pattern
on no zones makes no job. A job that starts takes its zones from the PLAYING jobs, and those left with no zone and no
chime line end. A tonal request that finds the line held waits, or with 8 waiting is degraded: it plays relay-only, or
ends at once on no zones, is counted, and raises RING. A pattern out of range is BAD_FIELD with 1. That the reply's
job number takes two bytes is the model's choice (log 6); of jobs that bear one wrapped number (log 16) nothing is said. -/
def Obligations.ring_now_has_four_outcomes : Prop :=
  (∀ (s : State) (zones b : Byte), s.takesFrames = true → 16 ≤ b.toNat →
    exec (.ringNow zones b) s = .next (s.answered 0xC2#8 [3#8, 1#8])) ∧
  ∀ (s : State) (zones : Byte) (n : Fin 16), s.takesFrames = true →
    (∀ j ∈ s.ring.jobs, j.number ≠ s.ring.nextJob) →
    let steps := if s.ring.patterns[n] = [] then s.ring.patterns[0] else s.ring.patterns[n]
    let tones := steps.any fun p => p.tone ≠ 0
    let job : Job := { number := s.ring.nextJob, zones := zones, steps := steps, origin := .office, created := s.now,
                       waited := 0, degraded := false, play := none }
    let started (holds degraded : Bool) : Job := { job with
      degraded := degraded
      play := some { step := 0, repeatsLeft := ((steps[0]?).map PatternStep.repeats).getD 0, sounding := true,
                     holdsChime := holds } }
    let others := (s.ring.jobs.map fun m => if m.play = none then m else { m with zones := m.zones &&& ~~~zones }).filter
      fun m => m.play = none || m.zones ≠ 0#8 || m.holds
    let next := if s.ring.nextJob < 65535 then s.ring.nextJob + 1 else 0
    let waiting := (s.ring.jobs.filter fun m => m.play = none).length
    let result (u : State) (p : Bytes) :=
      exec (.ringNow zones (BitVec.ofNat 8 n.val)) s = .next (u.answered 0xC2#8 (0#8 :: p))
    let number := u16 s.ring.nextJob
    (tones = false → zones = 0#8 → result s [0#8, 0#8, 0#8]) ∧
    (tones = false → zones ≠ 0#8 →
      result (s.withRing { s.ring with jobs := others ++ [started false false], nextJob := next })
        (1#8 :: 1#8 :: (number ++ [0#8]))) ∧
    (tones = true → s.ring.holder = none →
      result (s.withRing { s.ring with jobs := others ++ [started true false], nextJob := next })
        (1#8 :: 1#8 :: (number ++ [0#8]))) ∧
    (tones = true → s.ring.holder ≠ none → waiting < 8 →
      result (s.withRing { s.ring with jobs := s.ring.jobs ++ [job], nextJob := next })
        (2#8 :: 1#8 :: (number ++ [1#8, BitVec.ofNat 8 (waiting + 1)]))) ∧
    (tones = true → s.ring.holder ≠ none → 8 ≤ waiting →
      result ((s.withRing { s.ring with
          jobs := others ++ (if zones = 0#8 then [] else [started false true])
          nextJob := next
          degradedToday := bump s.ring.degradedToday }).withLink { s.link with raised := s.link.raised ||| 0x10#8 })
        (3#8 :: 1#8 :: (number ++ [0#8])))

/-- R75, R78: RING_STOP takes the named zones from their owners, ends the PLAYING jobs left with no zone, removes the
WAITING jobs whose zones are all named, leaves the rest, and where the line is then free grants it to a waiting job of the
lowest rank, the earliest created among equals. A waiting job's rank is the lowest zone rank among its zones, 8 where it has
none. The number of jobs ended in the reply leaves out a job that loses its last zone to the grant (log 23). -/
def Obligations.ring_stop_ends_and_grants : Prop :=
  ∀ (s : State) (zones : Byte), s.takesFrames = true →
    let left := (s.ring.jobs.map fun m => if m.play = none then m else { m with zones := m.zones &&& ~~~zones }).filter
      fun m => if m.play = none then m.zones &&& ~~~zones ≠ 0#8 else m.zones ≠ 0#8
    let ended := (s.ring.jobs.filter fun m => m.play ≠ none && m.zones &&& ~~~zones = 0#8).length
    let removed := (s.ring.jobs.filter fun m => m.play = none && m.zones &&& ~~~zones = 0#8).length
    ∃ jobs, exec (.ringStop zones) s =
        .next ((s.withRing { s.ring with jobs := jobs }).answered 0xC3#8
          [0#8, BitVec.ofNat 8 ended, BitVec.ofNat 8 removed]) ∧
      Granted s.params.zoneRank left jobs

/-- R69, R73: a PLAYING job's on period ends in its off period, or, with an off of 0, as an off period ends; an off period
ends in the next repeat, the next step or the end of the pattern, when the job's record goes and the line it held is
granted to the waiting job of the lowest rank (R75). A job in the other period is not touched (log 4); where two PLAYING jobs bear the number it means the
older (log 16). -/
def Obligations.periods_follow_the_pattern : Prop :=
  ∀ (s : State) (n : BitVec 16) (j : Job) (p : Play) (q : PatternStep), s.blocksRun = true →
    s.ring.jobs.find? (Job.playsAs n.toNat) = some j → j.play = some p → j.steps[p.step]? = some q →
    let put (v : Play) := s.withRing { s.ring with
      jobs := mapFirst (Job.playsAs n.toNat) (fun m => { m with play := some v }) s.ring.jobs }
    let ends (i : Instr) :=
      (1 < p.repeatsLeft → exec i s = .next (put { p with repeatsLeft := p.repeatsLeft - 1, sounding := true })) ∧
      (∀ q', p.repeatsLeft ≤ 1 → j.steps[p.step + 1]? = some q' →
        exec i s = .next (put { p with step := p.step + 1, repeatsLeft := q'.repeats, sounding := true })) ∧
      (p.repeatsLeft ≤ 1 → j.steps[p.step + 1]? = none →
        ∃ jobs, exec i s = .next (s.withRing { s.ring with jobs := jobs }) ∧
          Granted s.params.zoneRank (s.ring.jobs.eraseP (Job.playsAs n.toNat)) jobs)
    (p.sounding = true → q.offUnits ≠ 0 → exec (.onPeriodEnd n) s = .next (put { p with sounding := false })) ∧
    (p.sounding = true → q.offUnits = 0 → ends (.onPeriodEnd n)) ∧
    (p.sounding = false → ends (.offPeriodEnd n)) ∧
    (p.sounding = false → exec (.onPeriodEnd n) s = .next s) ∧ (p.sounding = true → exec (.offPeriodEnd n) s = .next s)

/-- R73, R74, R76, R80: on a count-up every waiting job has waited a second more, and those that have reached the chime wait
limit leave the queue degraded, each counted and RING raised once for any, while the others wait on in their order. A job
that leaves so plays relay-only from its first step on the zones it asked for, taken from the PLAYING jobs that owned
them, or ends where it asked for none; a PLAYING job left with no zone and no chime line ends. Of several such jobs the
oldest starts first, so that a younger takes over the zones they share (log 12). The count-up is the oldest that the
model keeps for the Ring Unit (log 3). -/
def Obligations.waits_end_in_degrades : Prop :=
  ∀ (s : State) (c : Stamp) (rest : List Stamp), s.blocksRun = true → s.countUps.waits = c :: rest →
    s.ring.degradedToday ≤ 65535 →
    let counted := s.ring.waiting.map fun j => { j with waited := j.waited + 1 }
    let outwaited := counted.filter fun j => s.params.chimeWait ≤ j.waited
    ∃ t, exec .chimeWaitDegrade s = .next t ∧
      t = ((s.withCountUps { s.countUps with waits := rest }).withRing t.ring).withLink
        { s.link with raised := if outwaited = [] then s.link.raised else s.link.raised ||| 0x10#8 } ∧
      t.ring.waiting = counted.filter (fun j => j.waited < s.params.chimeWait) ∧
      t.ring.degradedToday = min 65535 (s.ring.degradedToday + outwaited.length) ∧
      t.ring.patterns = s.ring.patterns ∧ t.ring.nextJob = s.ring.nextJob ∧
      (outwaited = [] →
        t.ring.jobs = s.ring.jobs.map fun j => if j.play = none then { j with waited := j.waited + 1 } else j) ∧
      (outwaited ≠ [] →
        let leaves (j : Job) : Bool := decide (j.play = none) && decide (s.params.chimeWait ≤ j.waited + 1)
        let taken (l : List Job) : BitVec 8 := (l.filter leaves).foldl (fun z m => z ||| m.zones) 0#8
        t.ring.jobs = (s.ring.jobs.mapIdx fun n j =>
          if leaves j then
            { j with
              waited := j.waited + 1, degraded := true
              zones := j.zones &&& ~~~taken (s.ring.jobs.drop (n + 1))
              play := some { step := 0, repeatsLeft := ((j.steps[0]?).map PatternStep.repeats).getD 0, sounding := true,
                             holdsChime := false } }
          else if j.play = none then { j with waited := j.waited + 1 }
          else { j with zones := j.zones &&& ~~~taken s.ring.jobs }).filter
            fun m => m.play = none || m.zones ≠ 0#8 || m.holds)

/-- R68, R72, R74, R75: every step keeps each zone with at most one owner, at most one holder of the chime line, at most 8
waiting jobs and none of them while the line is free, no PLAYING job with nothing to play on, and patterns of at most 8
steps with pattern 0 not empty. -/
def Obligations.rings_keep_their_law : Prop :=
  ∀ s t : State, s.ring.ok = true → step s = .next t → t.ring.ok = true

/-! ### The desk line -/

/-- R82, R83, R86, R90, R91: an OFFLINE terminal's offline poll falls due; the next poll goes to the terminal R90 chooses, READY just
where it has no tap in the queue and the queue has a place, with the verdict its slot holds and a checksum that brings
the sum of the data characters to 0; the poll is sent; and an address character begins the reply that is waited for, and
is discarded at any other time but while a reply is taken in. DTX sends the frame while DDIR is high, and idles else. With
no terminal to poll, or with the line not idle, no poll begins (the command changes nothing, log 4). That DTX and DDIR are computed from the
line's state is a deduction (log 9). -/
def Obligations.polls_begin_as_chosen : Prop :=
  ∀ s : State, s.blocksRun = true →
    (∀ a : Fin 4, (s.terminal a).state = .offline →
      exec (.offlinePollDue (BitVec.ofNat 8 (a.val + 1))) s = .next (s.putTerminal a { s.terminal a with due := true })) ∧
    (∀ a : Fin 4, s.desk.line = .idle → s.desk.pollsNext a →
      let v := s.terminal a
      let ready := !v.tapQueued && decide (s.desk.taps.length < 32)
      let data : Bytes := 1#8 :: (if ready then 1#8 else 0#8) ::
        match v.slot with
        | none => [0#8]
        | some w => [1#8, w.code.code, BitVec.ofNat 8 w.minutes, BitVec.ofNat 8 (w.number / 65536),
                     BitVec.ofNat 8 (w.number / 256), BitVec.ofNat 8 w.number]
      ∃ c : Byte, (sumOf data + c.toNat) % 256 = 0 ∧
        exec .pollStart s = .next (s.withDesk
          { terminals := s.desk.terminals.set a { v with due := false }
            taps := s.desk.taps
            line := .exchange
              { terminal := a, ready := ready, carries := v.slot, phase := .sending
                frame := { mark := true, value := BitVec.ofNat 8 (a.val + 1) } ::
                  (data ++ [c]).map fun b => { mark := false, value := b } }
            round := if v.state = .online then some a else s.desk.round })) ∧
    ((∀ a, ¬ s.desk.pollsNext a) ∨ s.desk.line ≠ .idle → exec .pollStart s = .next s) ∧
    (∀ e, s.desk.line = .exchange e → e.phase = .sending →
      exec .pollSent s = .next (s.withDesk { s.desk with line := .exchange { e with phase := .waiting } })) ∧
    (∀ e b, s.desk.line = .exchange e → e.phase = .waiting →
      exec (.replyAddressCharacter b) s =
        .next (s.withDesk { s.desk with line := .exchange { e with phase := .receiving b } })) ∧
    (∀ b, (∀ e, s.desk.line = .exchange e → e.phase = .sending) → exec (.replyAddressCharacter b) s = .next s) ∧
    (s.desk.ddir = true ↔ s.desk.dtx ≠ none) ∧
    (∀ l, s.desk.dtx = some l ↔ ∃ e, s.desk.line = .exchange e ∧ e.phase = .sending ∧ l = e.frame)

/-- R84 to R86, R88, R89, R92, R93, R95: how an exchange ends. A miss counts against an ONLINE terminal alone, which goes
OFFLINE at its third in a row with its verdict lost and TERMINAL raised; the line is idle after a silence, and quiet
after a bad reply, or an address character within a reply, until the quiet time ends. A valid reply brings the terminal ONLINE and delivers the poll's verdict, and
its tap is taken where the poll said READY and discarded with LOSS where it said WAIT. A terminal whose address has left
the enabled set becomes DISABLED as the exchange ends. That the misses in a row stay 3 as a terminal goes OFFLINE, and
while it is OFFLINE by misses or DISABLED after that, is a deduction (log 20); that the enabled set as it stands when the
exchange ends alone decides this, for an address removed and added again as for any other, is the model's choice (log 21). -/
def Obligations.exchanges_end_in_replies_or_misses : Prop :=
  ∀ s : State, s.blocksRun = true →
    (s.desk.line = .quiet → exec .quietTimeEnd s = .next (s.withDesk { s.desk with line := .idle })) ∧
    ∀ e : Exchange, s.desk.line = .exchange e →
      let a := e.terminal
      let v := s.terminal a
      let ended (w : Terminal) (taps : List Tap) (line : DeskLine) (raised : BitVec 8) : State :=
        (s.withDesk { s.desk with
          terminals := s.desk.terminals.set a
            (if s.params.enables a then w else { w with state := .disabled, slot := none, due := false })
          taps := taps
          line := line }).withLink { s.link with raised := s.link.raised ||| raised }
      let missed (line : DeskLine) : State :=
        if v.state ≠ .online then ended v s.desk.taps line 0#8
        else if v.consecutive + 1 < 3 then
          ended { v with consecutive := v.consecutive + 1, misses := bump v.misses } s.desk.taps line 0#8
        else
          ended { v with state := .offline, consecutive := v.consecutive + 1, slot := none, due := false, misses := bump v.misses }
            s.desk.taps line 0x08#8
      let valid : Terminal :=
        { v with state := .online, consecutive := 0, due := false, slot := if e.carries.isSome then none else v.slot }
      let came : BitVec 8 := if v.state = .offline then 0x08#8 else 0#8
      (e.phase = .waiting → exec .replyTimeout s = .next (missed .idle)) ∧
      (∀ b, e.phase = .receiving b →
        exec .replyFault s = .next (missed .quiet) ∧
        (∀ c, exec (.replyAddressCharacter c) s = .next (missed .quiet)) ∧
        exec .characterGapTimeout s = .next (missed .idle) ∧
        (∀ l, b.toNat ≠ a.val + 17 ∨ sumOf l % 256 ≠ 0 ∨ ¬ replyForm l →
          exec (.replyReceived l) s = .next (missed .quiet)) ∧
        (b.toNat = a.val + 17 →
          exec (.replyReceived [0#8, 0#8]) s = .next (ended valid s.desk.taps .idle came) ∧
          ∀ (c3 c2 c1 c0 kind reason c : Byte) (tap : TapKind), tapCodes kind reason tap →
            sumOf [1#8, c3, c2, c1, c0, kind, reason, c] % 256 = 0 →
            (e.ready = true → exec (.replyReceived [1#8, c3, c2, c1, c0, kind, reason, c]) s =
              .next (ended { valid with tapQueued := true, taken := bump v.taken }
                (s.desk.taps ++ [{ stamp := s.now, terminal := a, kind := tap
                                   card := ((c3.toNat * 256 + c2.toNat) * 256 + c1.toNat) * 256 + c0.toNat }]) .idle came)) ∧
            (e.ready = false → exec (.replyReceived [1#8, c3, c2, c1, c0, kind, reason, c]) s =
              .next (ended { valid with discarded := bump v.discarded } s.desk.taps .idle (came ||| 0x20#8)))))

/-- R87 to R95: every step keeps each terminal with at most one tap in the queue, marked as such, a verdict only where it is
ONLINE, fewer than three misses in a row there, and DISABLED just where its address is not enabled and no exchange with it
is open; and a terminal told READY by an open exchange has no tap in the queue. That an address removed
and added again while its exchange is open leaves its terminal as it was is the model's choice (log 21). -/
def Obligations.desk_line_keeps_its_law : Prop :=
  ∀ s t : State, s.deskOk = true → step s = .next t → t.deskOk = true

/-! ### Arrivals -/

/-- R99 to R111, R114, R117, R118: the judgement of the oldest tap, case by case: the verdict, the session and the minutes
that are logged and handed back, and all that the judgement changes before that. LOSS is raised by an offer just where that
offer finds the queue full. An entry of the reason book covers a session by R140. A stamp after the day's close is logged
with its reference session (log 10). -/
def Obligations.taps_are_judged : Prop :=
  ∀ (s : State) (tap : Tap) (rest : List Tap), s.blocksRun = true → s.rolling = false → s.desk.taps = tap :: rest →
    let base := s.withDesk { s.desk with taps := rest }
    let outcome (u : State) (c : VerdictCode) (m : Nat) (k : Option Session) (pupil : Option Nat) (number : Nat) : Prop :=
      exec .tapJudgement s = .next (u.concluded tap pupil c k m number)
    (s.slotOfCard tap.card = none → outcome base .unknownCard 0 none none 0) ∧
    ∀ (i : Nat) (p : Pupil), s.slotOfCard tap.card = some i → s.pupilAt i = some p →
      let r := s.plan p.track
      let t := tap.stamp.seconds
      let today := s.days.today
      let plain (u : State) (c : VerdictCode) (k : Option Session) : Prop := outcome u c 0 k (some i) p.number
      let out : Prop := ∃ e ∈ s.arrivals.offsite, e.pupil = i
      let back := base.withArrivals { s.arrivals with offsite := s.arrivals.offsite.filter fun e => e.pupil ≠ i }
      let due : Prop := s.clock.isSet = true ∧ tap.stamp.date = today
      (s.clock.isSet = false → plain base .notExpected none) ∧
      (s.clock.isSet = true → tap.stamp.date ≠ today → plain base .outsideDay none) ∧
      (∀ reason, due → tap.kind = .tapOut reason →
        (out → plain base .alreadyOut none) ∧
        (¬ out → r.entries = [] → plain base .notExpected none) ∧
        (¬ out → r.entries ≠ [] → r.day = .ended → plain base .outsideDay none) ∧
        (¬ out → r.entries ≠ [] → r.day = .active → 128 ≤ s.arrivals.offsite.length → plain base .offsiteFull none) ∧
        (¬ out → r.entries ≠ [] → r.day = .active → s.arrivals.offsite.length < 128 →
          plain (base.withArrivals { s.arrivals with
            offsite := s.arrivals.offsite ++ [{ pupil := i, seconds := t, reason := reason }] }) .signedOut none)) ∧
      (due → tap.kind = .tapIn → r.entries = [] →
        (out → plain back .returned none) ∧ (¬ out → plain base .notExpected none)) ∧
      (∀ k, due → tap.kind = .tapIn → r.entries ≠ [] → r.refersTo t k →
        let old := p.mark k
        let count := p.lateCount - (if old.counted then 1 else 0)
        let sum := p.lateMinutes - old.charge
        let written (v : MarkValue) (m : Nat) (explained charged : Bool) : Pupil :=
          { p with
            lateCount := if charged then min 255 (count + 1) else count
            lateMinutes := if charged then min 65535 (sum + m) else sum }.withMark k
          { value := v, source := .tap, minutes := m, charge := if charged then min m (65535 - sum) else 0
            counted := charged && decide (count < 255), explained := explained, reason := none
            delivered := old.delivered }
        (out → old.value = .none → r.day = .active →
          plain (back.withRoll (keyPut i (written .present 0 false false) s.roll)) .returned (some k)) ∧
        (out → old.value ≠ .none ∨ r.day = .ended → plain back .returned (some k)) ∧
        (¬ out → r.overFor t → plain base .outsideDay (some k)) ∧
        (¬ out → ¬ r.overFor t → old.value = .notRequired → plain base .notExpected (some k)) ∧
        (¬ out → ¬ r.overFor t → old.value ≠ .notRequired → r.day = .ended → plain base .outsideDay (some k)) ∧
        (¬ out → ¬ r.overFor t → r.day = .active → old.value = .present ∨ old.value = .late ∨ old.value = .lateClosed →
          plain base .repeated (some k)) ∧
        (¬ out → ¬ r.overFor t → r.day = .active →
          old.value = .none ∨ old.value = .authorised ∨ old.value = .unexplained →
          let entry := (s.book.find? fun b => b.pupil = i && b.date = today).filter fun b =>
            b.scope = .both || b.scope = .arrivingLate || b.scope = (match k with
              | .s1 => .s1
              | .s2 => .s2)
          let explains : Prop := ∃ b, entry = some b ∧ (b.reason = .appointment ∨ b.reason = .travelDelay)
          let applied (v : MarkValue) (m : Nat) (explained : Bool) (c : VerdictCode) : Prop :=
            let charged := v != .present && !explained
            let new := written v m explained charged
            let offered (q : NoticeQueue) (made : Bool) (kind : NoticeKind) : OfferResult :=
              if made && p.contact then
                q.take s.clock.seconds { kind := kind, pupil := i, number := p.number, date := today, release := none }
              else { queue := q, loss := false, created := none }
            let pattern := offered s.notices ((new.mark k).counted && s.params.patternEvery ≠ 0 &&
              new.lateCount % s.params.patternEvery = 0) (.pattern new.lateCount)
            let withdrawn := if old.value = .unexplained then pattern.queue.withdraw i today k true else pattern.queue
            let arrived := offered withdrawn (old.value = .unexplained && old.delivered) (.arrived k)
            let late := offered arrived.queue (charged && s.params.lateNotices[p.track]) (.late k m (c == .lateClosed))
            outcome ((((base.withRoll (keyPut i new s.roll)).withNotices late.queue).withBook
              (if entry.isSome then s.book.map fun b =>
                if b.pupil = i ∧ b.date = today then
                  { b with used := b.used || explained, contradicted := b.contradicted || !explained } else b
              else s.book)).withLink { s.link with raised := s.link.raised |||
                (if pattern.loss || arrived.loss || late.loss then 0x20#8 else 0#8) }) c m (some k) (some i) p.number
          ((∀ l shut, ¬ r.lateFor k t s.params.grace[p.track] l shut) → applied .present 0 false .onTime) ∧
          (∀ l shut, r.lateFor k t s.params.grace[p.track] l shut →
            let m := min 255 ((l + 59) / 60)
            (explains → applied .late m true .lateExplained) ∧
            (¬ explains → shut = true → applied .lateClosed m false .lateClosed) ∧
            (¬ explains → shut = false → applied .late m false .late))))

/-- R112, R113: SIGN_IN and SIGN_OUT judge the pupil at once as an IN tap or an OUT tap of the pupil's card stamped now would
be judged, but for the terminal of the log record, 0, and the hand-back: the verdict goes in the reply, with the mark
where the change was applied. A bad index, a reason outside the four and an empty slot are refused, and log nothing.
That the sequence number in a reply takes two bytes is the model's choice (log 6). -/
def Obligations.office_requests_judge_like_taps : Prop :=
  ∀ (s : State) (i : BitVec 16), s.takesFrames = true → s.rolling = false →
    let tapped (card : Nat) (kind : TapKind) : State :=
      s.withDesk { s.desk with taps := [{ stamp := s.now, terminal := 0, card := card, kind := kind }] }
    let like (c : Instr) (code : Byte) (u : State) (l : List LogRecord) (g : LogRecord) (payload : Bytes) : Prop :=
      u.arrivals.log = l ++ [g] ∧
      exec c s = .next ((((((s.withRoll u.roll).withBook u.book).withNotices u.notices).withArrivals
        { u.arrivals with log := l ++ [{ g with terminal := 0 }] }).withLink
          { s.link with raised := u.link.raised }).answered code (0#8 :: payload))
    (2400 ≤ i.toNat → exec (.signIn i) s = .next (s.answered 0xD0#8 [3#8, 0#8]) ∧
      ∀ reason, exec (.signOut i reason) s = .next (s.answered 0xD1#8 [3#8, 0#8])) ∧
    (i.toNat < 2400 → s.pupilAt i.toNat = none → exec (.signIn i) s = .next (s.answered 0xD0#8 [4#8])) ∧
    (i.toNat < 2400 → ∀ reason : Byte, reason ≠ 0#8 → reason ≠ 1#8 → reason ≠ 2#8 → reason ≠ 5#8 →
      exec (.signOut i reason) s = .next (s.answered 0xD1#8 [3#8, 1#8])) ∧
    (∀ reason r, i.toNat < 2400 → [reason] = encReason r →
      r = .appointment ∨ r = .unwell ∨ r = .family ∨ r = .otherAuthorised →
      (s.pupilAt i.toNat = none → exec (.signOut i reason) s = .next (s.answered 0xD1#8 [4#8])) ∧
      (∀ p, s.pupilAt i.toNat = some p → s.slotOfCard p.card = some i.toNat →
        ∃ u l g, exec .tapJudgement (tapped p.card (.tapOut r)) = .next u ∧
          like (.signOut i reason) 0xD1#8 u l g (g.verdict.code :: (u24 p.number ++ u16 g.sequence)))) ∧
    (∀ p, i.toNat < 2400 → s.pupilAt i.toNat = some p → s.slotOfCard p.card = some i.toNat →
      ∃ u l g mark, exec .tapJudgement (tapped p.card .tapIn) = .next u ∧
        like (.signIn i) 0xD0#8 u l g (g.verdict.code :: BitVec.ofNat 8 g.minutes :: (u24 p.number ++
          encOption encSession g.session ++ u16 g.sequence ++ encOption encMark mark)) ∧
        (u.roll = s.roll → g.verdict ∉ [.onTime, .late, .lateClosed, .lateExplained] → mark = none) ∧
        (u.roll ≠ s.roll ∨ g.verdict ∈ [.onTime, .late, .lateClosed, .lateExplained] →
          ∃ k q, g.session = some k ∧ u.pupilAt i.toNat = some q ∧ mark = some (q.mark k)))

/-- R115, R117, R118, R139, R141, R142: every step keeps the off-site list and the reason book within their sizes, with no
pupil and no pupil and date twice, in order, and naming occupied slots only; and the log at most 512 records with
sequence numbers that follow one another up to the next one to be given. R141: with no rollover past its second stage every
entry of the book is dated from today to 14 days on; past that stage (R177) the new date stands in place of today. -/
def Obligations.lists_and_log_keep_their_laws : Prop :=
  (∀ s t : State, s.listsOk = true → step s = .next t → t.listsOk = true) ∧
  (∀ s t : State, s.arrivals.logOk = true → step s = .next t → t.arrivals.logOk = true) ∧
  ∀ s t : State, s.horizonOk = true → step s = .next t → t.horizonOk = true

/-! ### The sweep -/

/-- R124 to R130, R176: a dispatch takes the oldest request with its counts at 0; a visit passes an empty slot and a pupil of
another track by, leaves a mark that is not NONE, and settles a NONE mark AUTHORISED from the off-site list, else
AUTHORISED from the book, whose entry is flagged USED, else UNEXPLAINED with an ABSENCE offer where contact and the
track's absence notices allow; and past the last slot the session is CLOSED, the result kept, SWEEP_DONE raised and the
next request dispatched. That the result's completion time holds a date is the model's choice (log 25). The last completion takes a rollover that waits
at stage 1 to stage 2 (R176). A flight past its last slot stands at position 2,400 (log 22). -/
def Obligations.sweeps_settle_marks : Prop :=
  ∀ s : State, s.blocksRun = true →
    let zero : SweepCounts := { offsite := 0, book := 0, unexplained := 0, offers := 0, left := 0 }
    let began (r : SweepRequest) : SweepFlight := { request := r, dispatched := s.now, position := 0, counts := zero }
    (∀ r rest, s.sweep.flight = none → s.sweep.queue = r :: rest →
      exec .sweepDispatch s = .next (s.withSweep { s.sweep with queue := rest, flight := some (began r) })) ∧
    (∀ f, s.sweep.flight = some f → f.position < 2400 →
      let k := f.request.session
      let i := f.position
      let moved (u : State) (c : SweepCounts) : State :=
        u.withSweep { s.sweep with flight := some { f with position := f.position + 1, counts := c } }
      ((∀ p, s.pupilAt i = some p → p.track ≠ f.request.track) → exec .sweepVisit s = .next (moved s f.counts)) ∧
      ∀ p, s.pupilAt i = some p → p.track = f.request.track →
        let old := p.mark k
        let settled (v : MarkValue) (reason : Option Reason) : State := s.withRoll (keyPut i
          ({ p with lateCount := p.lateCount - (if old.counted then 1 else 0)
                    lateMinutes := p.lateMinutes - old.charge }.withMark k
            { value := v, source := .sweep, minutes := 0, charge := 0, counted := false, explained := false,
              reason := reason, delivered := old.delivered }) s.roll)
        let out := s.arrivals.offsite.find? fun e => e.pupil = i
        let covering := (s.book.find? fun e => e.pupil = i && e.date = s.days.today).filter fun e =>
          e.scope = .both || e.scope = .arrivingLate || e.scope = (match k with
            | .s1 => .s1
            | .s2 => .s2)
        (old.value ≠ .none → exec .sweepVisit s = .next (moved s { f.counts with left := f.counts.left + 1 })) ∧
        (old.value = .none →
          (∀ e, out = some e → exec .sweepVisit s =
            .next (moved (settled .authorised (some e.reason)) { f.counts with offsite := f.counts.offsite + 1 })) ∧
          (∀ b, out = none → covering = some b → exec .sweepVisit s =
            .next (moved ((settled .authorised (some b.reason)).withBook (s.book.map fun e =>
              if e.pupil = i ∧ e.date = s.days.today then { e with used := true } else e))
                { f.counts with book := f.counts.book + 1 })) ∧
          (out = none → covering = none →
            (p.contact = false ∨ s.params.absenceNotices[p.track] = false → exec .sweepVisit s =
              .next (moved (settled .unexplained none) { f.counts with unexplained := f.counts.unexplained + 1 })) ∧
            (p.contact = true → s.params.absenceNotices[p.track] = true →
              let settle := s.params.settle[p.track]
              exec .sweepVisit s = .next (moved ((settled .unexplained none).offer
                { kind := .absence k, pupil := i, number := p.number, date := s.days.today
                  release := if settle = 0 then none else some (min 86399 (s.clock.seconds + settle * 60)) })
                { f.counts with unexplained := f.counts.unexplained + 1, offers := f.counts.offers + 1 }))))) ∧
    (∀ f, s.sweep.flight = some f → 2400 ≤ f.position →
      let r := s.plan f.request.track
      ∃ t, exec .sweepComplete s = .next t ∧
        t = (((s.withPlan f.request.track (if r.session f.request.session = some .closing then
            r.withSession f.request.session .closed else r)).withLink
          { s.link with raised := s.link.raised ||| 0x02#8 }).withSweep t.sweep).withDays { s.days with
            rollover := s.days.rollover.map fun w =>
              if w.stage = 1 ∧ s.sweep.queue = [] then { w with stage := 2 } else w } ∧
        t.sweep.last = some { request := f.request, dispatched := f.dispatched, counts := f.counts, completed := s.now } ∧
        t.sweep.queue = s.sweep.queue.drop 1 ∧ t.sweep.flight = (s.sweep.queue.head?).map began)

/-- R42, R122, R123, R133, R176: every step keeps the requests of the sweep queue and the flight distinct, each for a CLOSING
session, with a request for every CLOSING session while the blocks run; a rollover stands at stage 1 only while a sweep is
left, if the blocks run, and from stage 2 on none is left and no session is CLOSING; and the stored and running plans keep the order of R42 that this rests on: a session is opened before
it is closed and closed at most once, with neither entry PENDING once it is CLOSING or CLOSED. -/
def Obligations.sweeps_answer_to_closing_sessions : Prop :=
  ∀ s t : State, s.sweepsOk = true → step s = .next t → t.sweepsOk = true

/-! ### The reason book -/

/-- R140, R142 to R144: a good REPORT_ADD stores its entry at the end of its date, in place of the one of its key; dated
today it converts each covered mark that is UNEXPLAINED to AUTHORISED, withdrawing its notice, session 1 before session 2,
and its flags tell what the covered marks were. The checks fail in the rule's order. REPORT_CANCEL removes the entry of
its key. Of the reply, these are the
model's choice (log 6): a session that the report does not cover is absent, by the presence byte 0, and the three answers
follow the presence byte 1 as 0, 1 and 2; a report for another day has both absent; and a flag of the entry is 1 where it
is set and 0 where it is clear. -/
def Obligations.reports_are_added_and_cancelled : Prop :=
  ∀ (s : State) (i : BitVec 16) (field : DateField) (scope reason origin : Byte), s.takesFrames = true →
    s.rolling = false →
    let today := s.days.today
    let result (u : State) (p : Bytes) : Prop :=
      exec (.reportAdd i field scope reason origin) s = .next (u.answered 0xE0#8 p)
    let ahead (d : Nat) : Prop := field = dateField d ∧ today ≤ d ∧ d ≤ today + 14 ∧ d ≤ 36524
    (s.clock.isSet = false → result s [6#8]) ∧
    (s.clock.isSet = true → 2400 ≤ i.toNat → result s [3#8, 0#8]) ∧
    (s.clock.isSet = true → i.toNat < 2400 → (∀ d, ¬ ahead d) → result s [3#8, 1#8]) ∧
    (∀ d, s.clock.isSet = true → i.toNat < 2400 → ahead d →
      let held := s.book.find? fun e => e.pupil = i.toNat && e.date = d
      let codes := scope.toNat ≤ 3 ∧ reason.toNat ≤ 5 ∧ origin.toNat ≤ 1
      (3 < scope.toNat → result s [3#8, 2#8]) ∧
      (scope.toNat ≤ 3 → 5 < reason.toNat → result s [3#8, 3#8]) ∧
      (scope.toNat ≤ 3 → reason.toNat ≤ 5 → 1 < origin.toNat → result s [3#8, 4#8]) ∧
      (codes → s.pupilAt i.toNat = none → result s [4#8]) ∧
      (∀ p, codes → s.pupilAt i.toNat = some p → held = none → 256 ≤ s.book.length → result s [5#8]) ∧
      (∀ p sc r o, [scope] = encScope sc → [reason] = encReason r → [origin] = encReportOrigin o →
        s.pupilAt i.toNat = some p → held ≠ none ∨ s.book.length < 256 →
        let covers (k : Session) : Bool := decide (d = today) && (sc != (match k with
          | .s1 => .s2
          | .s2 => .s1))
        let converts (k : Session) : Bool := covers k && (p.mark k).value == .unexplained
        let came (k : Session) : Bool := covers k && ((p.mark k).value == .present || (p.mark k).value == .late ||
          (p.mark k).value == .lateClosed)
        let told (k : Session) : Bytes :=
          if !covers k then [0#8] else if converts k then [1#8, 0#8] else if came k then [1#8, 1#8] else [1#8, 2#8]
        let used := converts .s1 || converts .s2
        let contradicted := came .s1 || came .s2
        let left := s.book.filter fun e => !(e.pupil = i.toNat && e.date = d)
        let taken (k : Session) (n : Nat) : Nat := if converts k then n else 0
        let flag (b : Bool) : Byte := if b then 1#8 else 0#8
        ∃ before after q, left = before ++ after ∧ (∀ e ∈ before, e.date ≤ d) ∧ (∀ e ∈ after.head?, d < e.date) ∧
          q.card = p.card ∧ q.number = p.number ∧ q.track = p.track ∧ q.contact = p.contact ∧
          (∀ k, q.mark k = if converts k then
              { value := .authorised, source := .report, minutes := 0, charge := 0, counted := false, explained := false,
                reason := some r, delivered := (p.mark k).delivered }
            else p.mark k) ∧
          q.lateCount = p.lateCount - taken .s1 p.mark1.counted.toNat - taken .s2 p.mark2.counted.toNat ∧
          q.lateMinutes = p.lateMinutes - taken .s1 p.mark1.charge - taken .s2 p.mark2.charge ∧
          let book := before ++ { pupil := i.toNat, date := d, scope := sc, reason := r, origin := o, used := used,
                                  contradicted := contradicted } :: after
          let first := if converts .s1 then s.notices.withdraw i.toNat today .s1 false else s.notices
          result (((s.withRoll (if used then keyPut i.toNat q s.roll else s.roll)).withBook book).withNotices
              (if converts .s2 then first.withdraw i.toNat today .s2 false else first))
            (0#8 :: flag held.isSome :: BitVec.ofNat 8 before.length :: (told .s1 ++ told .s2 ++
              [flag used, flag contradicted] ++ u16 book.length)))) ∧
    (let cancelled (u : State) (p : Bytes) : Prop := exec (.reportCancel i field) s = .next (u.answered 0xE1#8 p);
      (2400 ≤ i.toNat → cancelled s [3#8, 0#8]) ∧
      (i.toNat < 2400 → (∀ d, d ≤ 36524 → field ≠ dateField d) → cancelled s [3#8, 1#8]) ∧
      ∀ d, i.toNat < 2400 → d ≤ 36524 → field = dateField d →
        ((∀ e ∈ s.book, e.pupil = i.toNat → e.date ≠ d) → cancelled s [4#8]) ∧
        ∀ e, (s.book.find? fun e => e.pupil = i.toNat && e.date = d) = some e →
          let left := s.book.filter fun e => !(e.pupil = i.toNat && e.date = d)
          cancelled (s.withBook left) (0#8 :: (u16 i.toNat ++ encDate d ++ encScope e.scope ++ encReason e.reason ++
            encReportOrigin e.origin ++ [if e.used then 1#8 else 0#8, if e.contradicted then 1#8 else 0#8] ++
            u16 left.length)))

/-! ### Notices -/

/-- R154, R155, R167: an offer that matches a notice held changes nothing; one that finds fewer than 192 notices is created
at the end of the order in the lowest free slot; and one that finds the queue full evicts the newest notice not HANDED of
the lowest class, where that class ranks below its own, and is dropped otherwise, with LOSS either way. Each creation,
eviction and drop is counted, and a counter past 65,535 is free (log 5). R164: a withdrawal reaches the ABSENCE notice of
its pupil, date and session alone: it takes a HELD or READY one out and counts it withdrawn, and makes a HANDED one
WITH_ARRIVAL on arrival yes and SILENT on arrival no, whatever its mode was. -/
def Obligations.offers_are_created_evicted_or_dropped : Prop :=
  (∀ (q : NoticeQueue) (pupil date : Nat) (k : Session) (arrival : Bool),
    let asked (n : Notice) : Prop := n.kind = .absence k ∧ n.pupil = pupil ∧ n.date = date
    let result := q.withdraw pupil date k arrival
    ((∀ n ∈ q.list, ¬ asked n) → result = q) ∧
    ∀ before n after, noticesApart q.list = true → q.list = before ++ n :: after → asked n →
      (n.state = .ready ∨ (∃ r, n.state = .held r) → ∃ w d,
        result = { q with list := before ++ after, counters := { q.counters with withdrawn := w }, drawn := d } ∧
        (q.counters.withdrawn < 65535 → w = q.counters.withdrawn + 1 ∧ d = q.drawn)) ∧
      (∀ stamp seconds mode, n.state = .handed stamp seconds mode →
        result = { q with list := before ++ { n with
          state := .handed stamp seconds (if arrival then .withArrival else .silent) } :: after })) ∧
  ∀ (s : State) (o : Offer), s.noticesOk = true → s.notices.list.all (fun n => n.slot < 192) = true →
    let q := s.notices
    let counted (n : Nat) (t : Nat) : Prop := n < 65535 → t = n + 1
    let same (n : Notice) : Prop :=
      n.kind.index = o.kind.index ∧ n.kind.session = o.kind.session ∧ n.pupil = o.pupil ∧ n.date = o.date
    let notice (slot : Nat) : Notice :=
      { slot := slot, creation := q.nextCreation, kind := o.kind, pupil := o.pupil, number := o.number, date := o.date
        state := (match o.release with
          | some r => if s.clock.seconds < r then .held r else .ready
          | none => .ready)
        attempts := 0 }
    let created (u : State) (l : List Notice) (slot : Nat) : Prop :=
      u.notices.list = l ++ [notice slot] ∧
      u.notices.nextCreation = (if q.nextCreation < 65535 then q.nextCreation + 1 else 0) ∧
      counted q.counters.created u.notices.counters.created ∧ u.notices.order = q.order ∧ u.notices.hold = q.hold ∧
      (∃ l, u = (s.withNotices u.notices).withLink l)
    ((∃ n ∈ q.list, same n) → s.offer o = s) ∧
    ((∀ n ∈ q.list, ¬ same n) →
      (q.list.length < 192 → ∃ slot, slot < 192 ∧ (∀ n ∈ q.list, n.slot ≠ slot) ∧
        (∀ m, m < slot → ∃ n ∈ q.list, n.slot = m) ∧ created (s.offer o) q.list slot ∧
        (s.offer o).link = s.link) ∧
      (192 ≤ q.list.length → (s.offer o).link = { s.link with raised := s.link.raised ||| 0x20#8 } ∧
        (∀ before n after, q.list = before ++ n :: after → n.isHanded = false →
          classPlace q.order o.kind < classPlace q.order n.kind →
          (∀ m ∈ q.list, m.isHanded = false → classPlace q.order m.kind ≤ classPlace q.order n.kind) →
          (∀ m ∈ after, m.isHanded = false → classPlace q.order m.kind ≠ classPlace q.order n.kind) →
          created (s.offer o) (before ++ after) n.slot ∧
          counted q.counters.evicted (s.offer o).notices.counters.evicted) ∧
        ((∀ n ∈ q.list, n.isHanded = false → classPlace q.order n.kind ≤ classPlace q.order o.kind) →
          counted q.counters.dropped (s.offer o).notices.counters.dropped ∧
          (s.offer o).notices.list = q.list ∧ (s.offer o).notices.nextCreation = q.nextCreation)))

/-- R151 to R153, R157, R159: NOTICE_TAKE hands out the first READY notice in the rank of class order, kind and creation,
and nothing while the hold switch is on, none is READY or 8 are HANDED; NOTICE_HOLD and NOTICE_ORDER set what they
carry, change no notice and answer with the value before. The codes and widths R188 leaves open in the replies, the class order's one byte among them, are the
model's choice (log 6). -/
def Obligations.notices_are_taken_by_rank : Prop :=
  ∀ s : State, s.takesFrames = true →
    let q := s.notices
    let ready := (q.list.filter Notice.isReady).length
    let handed := (q.list.filter Notice.isHanded).length
    let result (u : State) (p : Bytes) : Prop := exec .noticeTake s = .next (u.answered 0xE8#8 p)
    (s.rolling = false → q.hold = true → result s [0#8, 0#8, 0#8]) ∧
    (s.rolling = false → q.hold = false → ready = 0 → result s [0#8, 0#8, 1#8]) ∧
    (s.rolling = false → q.hold = false → ready ≠ 0 → 8 ≤ handed → result s [0#8, 0#8, 2#8]) ∧
    (∀ before n after, s.rolling = false → q.hold = false → handed < 8 → noticesApart q.list = true →
      q.list = before ++ n :: after → n.isReady = true →
      (∀ m ∈ before, m.isReady = true → kindRank q.order n.kind < kindRank q.order m.kind) →
      (∀ m ∈ after, m.isReady = true → kindRank q.order n.kind ≤ kindRank q.order m.kind) →
      result (s.withNotices { q with list := before ++ { n with state := .handed s.now 0 .none } :: after })
        (0#8 :: 1#8 :: BitVec.ofNat 8 n.slot :: (u16 n.creation ++ [BitVec.ofNat 8 n.kind.index] ++ u16 n.pupil ++
          u24 n.number ++ encDate n.date ++ encOption encSession n.kind.session ++
          (match n.kind with
            | .late _ m closed => [1#8, BitVec.ofNat 8 m, 1#8, if closed then 3#8 else 2#8, 0#8]
            | .pattern c => [0#8, 0#8, 1#8, BitVec.ofNat 8 c]
            | _ => [0#8, 0#8, 0#8]) ++
          [BitVec.ofNat 8 n.attempts] ++ encDate s.clock.date ++ encTime s.clock.seconds))) ∧
    (∀ value : Byte,
      (1 < value.toNat → exec (.noticeHold value) s = .next (s.answered 0xEA#8 [3#8, 0#8])) ∧
      (value.toNat ≤ 1 → exec (.noticeHold value) s = .next ((s.withNotices { q with hold := value == 1#8 }).answered
        0xEA#8 [0#8, if q.hold then 1#8 else 0#8, BitVec.ofNat 8 ready]))) ∧
    (∀ order : Byte,
      (6 ≤ order.toNat → exec (.noticeOrder order) s = .next (s.answered 0xEB#8 [3#8, 0#8])) ∧
      ∀ o : Fin 6, order.toNat = o.val → exec (.noticeOrder order) s =
        .next ((s.withNotices { q with order := o }).answered 0xEB#8 [0#8, BitVec.ofNat 8 q.order.val]))

/-- R160 to R162, R165: DELIVERED removes a READY or HANDED notice, sets the delivered flag of an ABSENCE notice's mark unless
the notice is SILENT or dated another day, and offers ARRIVED for one that is WITH_ARRIVAL; FAILED leaves a READY notice,
withdraws a superseded one, abandons one at the attempt limit and returns any other to READY with one attempt more; a HELD
one is answered STATE, a handle that names no notice NO_SUCH, and a bad slot or outcome BAD_FIELD. The layout of the
replies is log 6's. -/
def Obligations.outcomes_settle_notices : Prop :=
  ∀ (s : State) (slot : Byte) (creation : BitVec 16) (outcome : Byte), s.takesFrames = true → s.rolling = false →
    let q := s.notices
    let result (u : State) (p : Bytes) : Prop :=
      exec (.noticeOutcome slot creation outcome) s = .next (u.answered 0xE9#8 p)
    (192 ≤ slot.toNat → result s [3#8, 0#8]) ∧
    (slot.toNat < 192 → 1 < outcome.toNat → result s [3#8, 2#8]) ∧
    (slot.toNat < 192 → outcome.toNat ≤ 1 → (∀ n ∈ q.list, n.slot = slot.toNat → n.creation ≠ creation.toNat) →
      result s [4#8]) ∧
    (∀ n ∈ q.list, slot.toNat < 192 → n.slot = slot.toNat → n.creation = creation.toNat → s.noticesOk = true →
      let gone (d : DayCount) : State := s.withNotices (q.remove n d)
      let flagged (u : State) (k : Session) : State :=
        match s.pupilAt n.pupil with
        | some p => if n.date = s.days.today then
            u.withRoll (keyPut n.pupil (p.withMark k { p.mark k with delivered := true }) s.roll) else u
        | none => u
      (n.isHeld = true → outcome.toNat ≤ 1 → result s [6#8]) ∧
      (n.isHeld = false → outcome = 0#8 →
        (∀ k, n.kind = .absence k → n.mode = .none → result (flagged (gone .delivered) k) [0#8, 1#8, 0#8, 0#8, 0#8]) ∧
        (∀ k, n.kind = .absence k → n.mode = .withArrival →
          let u := flagged (gone .delivered) k
          let follows := match s.pupilAt n.pupil with
            | some p => if p.contact then some p.number else none
            | none => none
          (follows = none → result u [0#8, 1#8, 0#8, 0#8, 0#8]) ∧
          (∀ number, follows = some number →
            let o : Offer := { kind := .arrived k, pupil := n.pupil, number := number, date := n.date, release := none }
            let v := u.offer o
            result v ([0#8, 1#8, 0#8, 0#8] ++ (if v = u then [0#8] else
              match v.notices.list.getLast? with
              | some m => 1#8 :: BitVec.ofNat 8 m.slot :: u16 m.creation
              | none => [0#8])))) ∧
        ((∀ k, n.kind ≠ .absence k) ∨ n.mode = .silent → result (gone .delivered) [0#8, 1#8, 0#8, 0#8, 0#8])) ∧
      (n.isReady = true → outcome = 1#8 → result s [0#8, 0#8, 1#8, 1#8, BitVec.ofNat 8 n.attempts, 0#8, 0#8]) ∧
      (n.isHanded = true → outcome = 1#8 →
        (n.mode ≠ .none → result (gone .withdrawn) [0#8, 1#8, 2#8, 0#8, 0#8]) ∧
        (n.mode = .none → s.params.attemptLimit ≤ n.attempts + 1 → result (gone .abandoned) [0#8, 1#8, 1#8, 0#8, 0#8]) ∧
        (n.mode = .none → n.attempts + 1 < s.params.attemptLimit →
          result (s.withNotices { q with list := q.list.map fun m =>
              if m.slot = n.slot then { n with state := .ready, attempts := n.attempts + 1 } else m })
            [0#8, 0#8, 1#8, 1#8, BitVec.ofNat 8 (n.attempts + 1), 0#8, 0#8])))

/-- R156, R162, R163, R165: a count-up makes READY every HELD notice whose release time it has reached; and a count-up adds a
second to every HANDED notice, and those that reach the handed timeout are withdrawn where superseded, abandoned at the
attempt limit, and else READY again with one attempt more. The count-ups are the oldest that the model keeps (log 3). -/
def Obligations.count_ups_release_and_time_out : Prop :=
  ∀ (s : State) (c : Stamp) (rest : List Stamp), s.blocksRun = true →
    (s.countUps.releases = c :: rest → exec .noticeRelease s =
      .next ((s.withCountUps { s.countUps with releases := rest }).withNotices { s.notices with
        list := s.notices.list.map fun n =>
          match n.state with
          | .held r => if r ≤ c.seconds then { n with state := .ready } else n
          | _ => n })) ∧
    (s.countUps.timeouts = c :: rest → noticesApart s.notices.list = true →
      s.notices.counters.withdrawn + s.notices.list.length ≤ 65535 →
      s.notices.counters.abandoned + s.notices.list.length ≤ 65535 →
      let failing (n : Notice) : Option (Bool × Notice) :=
        match n.state with
        | .handed _ k m => if s.params.handedTimeout * 60 ≤ k + 1 then
            some (m != .none, { n with state := .ready, attempts := n.attempts + 1 }) else none
        | _ => none
      let given (n : Notice) : Bool := match failing n with
        | some (false, m) => s.params.attemptLimit ≤ m.attempts
        | _ => false
      let recalled (n : Notice) : Bool := match failing n with
        | some (true, _) => true
        | _ => false
      exec .handedTimeout s = .next ((s.withCountUps { s.countUps with timeouts := rest }).withNotices { s.notices with
        list := (s.notices.list.filter fun n => !given n && !recalled n).map fun n =>
          match failing n, n.state with
          | some (_, m), _ => m
          | none, .handed t k m => { n with state := .handed t (k + 1) m }
          | none, _ => n
        counters := { s.notices.counters with
          withdrawn := s.notices.counters.withdrawn + (s.notices.list.filter recalled).length
          abandoned := s.notices.counters.abandoned + (s.notices.list.filter given).length } }))

/-- R150, R162, R167: every step keeps at most 192 notices in distinct slots, no two of one kind, pupil, date and session, at
most 8 of them HANDED and attempts at most 4; and, while the created counter is not near its limit, the created counter
equal to the sum of the five ways out and the notices held. -/
def Obligations.notices_keep_their_law_and_balance : Prop :=
  (∀ s t : State, s.noticesOk = true → step s = .next t → t.noticesOk = true) ∧
  ∀ s t : State, s.noticesOk = true → s.notices.conserved = true → s.notices.counters.created + 3 ≤ 65535 →
    step s = .next t → t.notices.conserved = true

/-- R164: every step keeps each ABSENCE notice that is not superseded dated today and its pupil's mark for the session
UNEXPLAINED, and leaves none once a rollover has closed the old day. -/
def Obligations.absence_notices_have_their_unexplained_mark : Prop :=
  ∀ s t : State, s.noticesOk = true → s.sweepsOk = true → s.absencesOk = true → step s = .next t → t.absencesOk = true

/-! ### Days -/

/-- R172, R173: a CALENDAR_LOAD of 42 good selections replaces the weekday table; one of 1 to 24 exceptions, their dates not
before today and no two alike, adds or replaces each, unless more than 96 would be held, which is FULL; one of 1 to 24
dates removes the exceptions held for them. The selection for a date follows the exception, and the weekday's entry
where there is none or it says DEFAULT; an empty plan counts as none. A form that is none of the three and a wrong number
of items are BAD_FIELD with 0, and the first bad item BAD_FIELD with its number: a selection out of range, a date that is
none, lies before today (in EXCEPTIONS) or repeats an earlier one, or a flag byte that is neither 0 nor 1 (log 6). A
command that is not well-formed is answered too, which is the model's choice (log 19). -/
def Obligations.calendars_are_loaded_and_select : Prop :=
  ∀ s : State, s.takesFrames = true → s.rolling = false →
    let held := s.days.exceptions
    let refused (b : CalendarBody) (n : Byte) := exec (.calendarLoad b) s = .next (s.answered 0xF0#8 [3#8, n])
    let item (x : Nat × CalendarException) : ExceptionItem :=
      { date := dateField x.1, closed := if x.2.closed then 1#8 else 0#8, termStart := if x.2.termStart then 1#8 else 0#8
        selections := x.2.selections.map fun y => match y with
          | .plan n => BitVec.ofNat 8 n.val
          | .none => 16#8
          | .byWeekday => 17#8 }
    (∀ form rest, refused (.other form rest) 0#8) ∧
    (∀ l : Bytes, (l.length ≠ 42 → refused (.weekday l) 0#8) ∧
      ∀ (j : Nat) (x : Byte), l.length = 42 → l[j]? = some x → (∀ y ∈ l.take j, y.toNat ≤ 16) → 16 < x.toNat →
        refused (.weekday l) (BitVec.ofNat 8 (j + 1))) ∧
    (∀ l, l = [] ∨ 24 < l.length → refused (.exceptions l) 0#8) ∧ (∀ l, l = [] ∨ 24 < l.length → refused (.remove l) 0#8) ∧
    (∀ (l : List (Nat × CalendarException)) (x : ExceptionItem) (rest : List ExceptionItem),
      l.length + 1 + rest.length ≤ 24 → (l.map Prod.fst).Nodup → (∀ y ∈ l, s.days.today ≤ y.1 ∧ y.1 ≤ 36524) →
      (∀ d, s.days.today ≤ d → d ≤ 36524 → d ∉ l.map Prod.fst → x.date ≠ dateField d) ∨ 1 < x.closed.toNat ∨
        1 < x.termStart.toNat ∨ (∃ a : Track, 17 < x.selections[a].toNat) →
      refused (.exceptions (l.map item ++ x :: rest)) (BitVec.ofNat 8 (l.length + 1))) ∧
    (∀ (l : List Nat) (x : DateField) (rest : List DateField), l.length + 1 + rest.length ≤ 24 → l.Nodup →
      (∀ d ∈ l, d ≤ 36524) → (∀ d, d ≤ 36524 → d ∉ l → x ≠ dateField d) →
      refused (.remove (l.map dateField ++ x :: rest)) (BitVec.ofNat 8 (l.length + 1))) ∧
    (∀ v : Vector (Vector (Option (Fin 16)) 6) 7, exec (.calendarLoad (.weekday (v.toList.flatMap fun d => d.toList.map
        fun x => match x with
          | some n => BitVec.ofNat 8 n.val
          | none => 16#8))) s =
      .next ((s.withDays { s.days with weekdays := v }).answered 0xF0#8 [0#8, BitVec.ofNat 8 held.length])) ∧
    (∀ l : List (Nat × CalendarException), l ≠ [] → l.length ≤ 24 → (l.map Prod.fst).Nodup →
      (∀ x ∈ l, s.days.today ≤ x.1 ∧ x.1 ≤ 36524) → keysRise held = true →
      let total := held.length + (l.filter fun x => (keyGet x.1 held).isNone).length
      (96 < total → exec (.calendarLoad (.exceptions (l.map item))) s = .next (s.answered 0xF0#8 [5#8])) ∧
      (total ≤ 96 → ∃ e, keysRise e = true ∧ e.length = total ∧
        (∀ d, keyGet d e = match l.find? (fun x => x.1 = d) with
          | some x => some x.2
          | none => keyGet d held) ∧
        exec (.calendarLoad (.exceptions (l.map item))) s =
          .next ((s.withDays { s.days with exceptions := e }).answered 0xF0#8 [0#8, BitVec.ofNat 8 total]))) ∧
    (∀ l : List Nat, l ≠ [] → l.length ≤ 24 → l.Nodup → (∀ d ∈ l, d ≤ 36524) →
      let kept := held.filter fun x => !l.contains x.1
      exec (.calendarLoad (.remove (l.map dateField))) s = .next ((s.withDays { s.days with exceptions := kept }).answered
        0xF0#8 [0#8, BitVec.ofNat 8 kept.length, BitVec.ofNat 8 (held.length - kept.length)])) ∧
    (∀ (date : Nat) (a : Track),
      let named (n : Option (Fin 16)) : Option (Fin 16) := match n with
        | some m => if s.plans[m] = [] then none else some m
        | none => none
      let weekday := s.days.weekdays[(⟨(date + 5) % 7, Nat.mod_lt _ (by decide)⟩ : Fin 7)][a]
      s.selection date a = match keyGet date held with
        | none => named weekday
        | some x => if x.closed then none else match x.selections[a] with
            | .plan n => named (some n)
            | .none => none
            | .byWeekday => named weekday)

/-- R18, R49, R149, R169, R175 to R177, R179, R180: stage 2 makes the term-start finding, closes the
old day with its summary and empties what belonged to it; a step of the walk sets one pupil's marks for the new day; stage
5 builds the running plans from the selections; and stage 6 makes the new date today, raises DAY_ROLLED and starts again
where the clock has moved on. Stage 3 is stated with the tallies. A further rollover waits at stage 1 while a sweep
is queued or in flight, and begins at stage 2 where none is (R176, log 26). -/
def Obligations.rollovers_turn_the_day : Prop :=
  ∀ (s : State) (r : Rollover), s.blocksRun = true → s.days.rollover = some r →
    let has (a : Track) (k : Session) : Bool := match r.selected a with
      | some n => s.plans[n].any fun e => e.kind = .sessionOpen k
      | none => false
    let fresh (b : Bool) : Mark := { value := if b then .none else .notRequired, source := .none, minutes := 0, charge := 0,
                                     counted := false, explained := false, reason := none, delivered := false }
    (r.stage = 2 → s.notices.counters.expired + s.notices.list.length ≤ 65535 →
      let crossed (d : Nat) : Prop := if r.old < r.new then r.old < d ∧ d ≤ r.new else d = r.new
      ∃ (t : State) (finding : Bool) (d : DaySummary), exec .rolloverStage2 s = .next t ∧
        (finding = true ↔ ∃ x ∈ s.days.exceptions, crossed x.1 ∧ x.2.termStart = true) ∧
        t = (((((s.withNotices { s.notices with list := [], counters := zeroCounters }).withBook
          (s.book.filter fun e => r.new ≤ e.date && e.date ≤ r.new + 14 && e.date ≤ 36524)).withArrivals
            { offsite := [], log := [], nextSequence := 0, overwrites := 0 }).withRing
              { s.ring with degradedToday := 0 }).withDesk { s.desk with terminals := t.desk.terminals }).withDays
                { s.days with
                  closed := some d
                  exceptions := s.days.exceptions.filter fun x => r.new ≤ x.1
                  rollover := some { r with stage := 3, termStart := some finding } } ∧
        (∀ a, t.terminal a = { s.terminal a with taken := 0, discarded := 0, misses := 0 }) ∧
        d.date = r.old ∧ d.closedBy = some (r.new, finding) ∧
        (∀ a : Track, d.tracks[a].plan = (s.plan a).plan ∧
          d.tracks[a].pupils = (s.roll.filter fun e => e.2.track = a).length ∧
          ∀ v : MarkValue, ∀ x : Fin 7, [BitVec.ofNat 8 x.val] = encMarkValue v →
            d.tracks[a].session1[x] = (s.roll.filter fun e => e.2.track = a && e.2.mark1.value = v).length ∧
            d.tracks[a].session2[x] = (s.roll.filter fun e => e.2.track = a && e.2.mark2.value = v).length) ∧
        d.lateMinutes = (s.roll.map fun e => e.2.mark1.charge + e.2.mark2.charge).sum ∧
        d.notices = { s.notices.counters with expired := s.notices.counters.expired + s.notices.list.length } ∧
        d.tapsDiscarded = (s.terminal 0).discarded + (s.terminal 1).discarded + (s.terminal 2).discarded +
          (s.terminal 3).discarded ∧
        d.overwrites = s.arrivals.overwrites ∧ d.degraded = s.ring.degradedToday ∧
        d.notReturned = s.arrivals.offsite.length ∧
        let gone := s.book.filter fun e => !(r.new ≤ e.date && e.date ≤ r.new + 14 && e.date ≤ 36524)
        d.bookUsed = (gone.filter BookEntry.used).length ∧ d.bookContradicted = (gone.filter BookEntry.contradicted).length ∧
        d.bookUnused = (gone.filter fun e => !e.used && !e.contradicted).length) ∧
    (r.stage = 4 →
      ∃ t, exec .rolloverWalkSlot s = .next t ∧
        t = (s.withRoll t.roll).withDays { s.days with rollover := some { r with
          position := r.position + 1, stage := if r.position + 1 < 2400 then 4 else 5 } } ∧
        ∀ i, t.pupilAt i = if i = r.position then
            (s.pupilAt i).map fun p => { p with mark1 := fresh (has p.track .s1), mark2 := fresh (has p.track .s2) }
          else s.pupilAt i) ∧
    (r.stage = 5 →
      ∃ t, exec .rolloverStage5 s = .next t ∧
        t = (s.withRunning t.running).withDays { s.days with rollover := some { r with stage := 6 } } ∧
        ∀ a : Track, t.plan a = match r.selected a with
          | none => { plan := none, entries := [], day := .ended, session1 := none, session2 := none, silence := false }
          | some n => if s.plans[n] = [] then
              { plan := none, entries := [], day := .ended, session1 := none, session2 := none, silence := false }
            else
              { plan := some n, day := .active, silence := false
                entries := s.plans[n].map fun e => { entry := e, delay := 0, state := .pending, inserted := false }
                session1 := if has a .s1 then some .notOpen else none
                session2 := if has a .s2 then some .notOpen else none }) ∧
    (r.stage = 6 →
      exec .rolloverComplete s = .next ((s.withDays { s.days with
        today := r.new
        rollover := if s.clock.date = r.new then none else
          some { old := r.new, new := s.clock.date
                 stage := if s.sweep.queue = [] ∧ s.sweep.flight = none then 2 else 1
                 position := 0, termStart := none, selections := none }
        }).withLink { s.link with raised := s.link.raised ||| 0x04#8 }))

/-! ### Power, resets and starts -/

/-- R2, R39, R65, R68, R81, R98, R121, R122, R131, R139, R170, R171, R183, R193, R195: a start that finds the signature not
valid gives every block its cold value, the commands that wait apart, with START and CLOCK pending and nothing masked;
and the state after reset, which is that of a cold start, obeys every law stated here. That count-ups not yet acted on are
dropped (log 13), that the model's own field `drawn` is 0 (log 5) and that the battery is taken as present again (log 14)
are the model's choices. -/
def Obligations.cold_starts_give_cold_values : Prop :=
  (∀ s : State, s.power.signature = false →
    let result (i : Instr) : Prop := exec i s = .next { State.reset with pending := s.pending }
    (s.power.mains = false → s.power.resetLow = false → result .powerReturn) ∧
    (s.power.mains = true → s.power.resetLow = true → result .pinReset) ∧
    (s.blocksRun = true → s.link.startRequested = true → result .requestedStart)) ∧
  (let s := State.reset;
    s.pending = [] ∧ s.roll = [] ∧ s.cards = [] ∧ s.book = [] ∧ s.arrivals.offsite = [] ∧ s.arrivals.log = [] ∧
    s.arrivals.nextSequence = 0 ∧ s.arrivals.overwrites = 0 ∧ s.notices.list = [] ∧ s.notices.nextCreation = 0 ∧
    s.notices.order = 0 ∧ s.notices.hold = false ∧ s.notices.counters = zeroCounters ∧
    s.clock = { date := 0, seconds := 0, prescaler := 0, held := false, isSet := false } ∧
    (∀ n : Fin 16, s.plans[n] = []) ∧
    (∀ a, s.plan a = { plan := none, entries := [], day := .ended, session1 := none, session2 := none,
                       silence := false }) ∧
    (∀ n : Fin 16, s.ring.patterns[n] =
      if n = 0 then [{ tone := 0, onUnits := 60, offUnits := 0, repeats := 1 }] else []) ∧
    s.ring.jobs = [] ∧ s.ring.nextJob = 0 ∧ s.ring.degradedToday = 0 ∧
    (∀ a, s.terminal a = { state := .disabled, consecutive := 0, tapQueued := false, slot := none, due := false, taken := 0,
                           discarded := 0, misses := 0 }) ∧
    s.desk.taps = [] ∧ s.desk.line = .idle ∧ s.sweep = { queue := [], flight := none, last := none } ∧
    s.days.today = 0 ∧ (∀ (d : Fin 7) (a : Track), s.days.weekdays[d][a] = none) ∧ s.days.exceptions = [] ∧
    s.days.rollover = none ∧ s.days.closed = none ∧
    s.power = { mains := true, resetLow := false, startWaiting := false, battery := true, signature := true
                record := { cause := .cold, time := { date := 0, seconds := 0 }, lastRetain := none } } ∧
    s.link.receiver = .hunt ∧ s.link.inHand = none ∧ s.link.mask = 0#8 ∧ s.pendingSet = 0xC0#8 ∧ s.link.broken = 0 ∧
    s.link.overlapped = 0 ∧ s.link.bad = 0 ∧
    (∀ row ∈ paramTable, ∀ i, i < row.2.1 → ∃ q, paramOf (BitVec.ofNat 8 row.1) (BitVec.ofNat 8 i) = .ok q ∧
      s.params.get q = row.2.2.2.2 i) ∧
    s.clockOk && s.rollOk && s.talliesOk && s.notRequiredOk && s.plansOk && s.ring.ok && s.deskOk && s.arrivals.logOk &&
      s.listsOk && s.horizonOk && s.statesHeld && s.sweepsOk && s.noticesOk && s.absencesOk && s.notices.conserved)

/-- R81, R98, R122, R182, R183, R195: RETAIN_ENTRY and, in FULL, RESET_N_LOW stop the link, the desk line, the rings and the
sweeps and change no more than that says, RETAIN_ENTRY alone writing the last entry to RETAIN; MAINS_OK rising with
RESET_N low, and RESET_N rising in RETAIN, make no start; and the signature ends as the second of the two supplies is
lost, whichever that is. What a count-up handed and not acted on becomes is the model's choice (log 13), and so is what
is kept of a battery lost in FULL (log 14); that a DISABLED terminal keeps its misses in a row is a deduction (log 20). -/
def Obligations.power_and_reset_stop_the_blocks : Prop :=
  ∀ s : State,
    let p := s.power
    let lost (a : Fin 4) : Nat := (s.desk.taps.filter fun t => t.terminal = a).length
    let stopped (i : Instr) (power : Power) : Prop :=
      ∃ t, exec i s = .next t ∧
        t = ((((((s.withPower power).withLink
            { s.link with receiver := .hunt, inHand := none, startRequested := false }).withDesk
            { terminals := t.desk.terminals, taps := [], line := .idle, round := none }).withRing
            { s.ring with jobs := [], nextJob := 0 }).withSweep { s.sweep with queue := [], flight := none }).withCountUps
            { bells := [], waits := [], releases := [], timeouts := [] }) ∧
        ∀ a, t.terminal a = { s.terminal a with
          state := if s.params.enables a then .offline else .disabled
          consecutive := if s.params.enables a then 0 else (s.terminal a).consecutive
          tapQueued := false, slot := none, due := false
          discarded := min 65535 ((s.terminal a).discarded + lost a) }
    (p.mains = true → stopped .retainEntry { p with
      mains := false, startWaiting := false, signature := p.signature && p.battery, record := { p.record with lastRetain := some s.now } }) ∧
    (p.mains = true → p.resetLow = false → stopped .resetNLow { p with resetLow := true }) ∧
    (p.mains = false → p.resetLow = false → exec .resetNLow s = .next (s.withPower { p with resetLow := true })) ∧
    (p.mains = false → p.resetLow = true →
      exec .powerReturn s = .next (s.withPower { p with mains := true, startWaiting := true }) ∧
      exec .pinReset s = .next (s.withPower { p with resetLow := false })) ∧
    (p.mains = false → exec .batteryLoss s = .next (s.withPower { p with battery := false, signature := false })) ∧
    (p.mains = true → exec .batteryLoss s = .next (s.withPower { p with battery := false }))

/-- R66, R81, R98, R122, R137, R170, R176, R182, R183, R195: a start that finds the signature valid keeps retained state, writes the
start record, begins the link with START pending and nothing masked, takes the enabled terminals OFFLINE with their polls
due, places a request for each CLOSING session, makes HANDED notices READY and withdraws superseded ones, and takes up or
starts a rollover. The start follows MAINS_OK's rise, RESET_N's rise, or the last byte of the reply to PART_RESET. What
a count-up handed and not acted on becomes is the model's choice (log 13); so is that the battery stays as it was, lost or not
(log 14); that a DISABLED terminal keeps its misses in a row is a deduction (log 20). A rollover at stage 1
takes the clock's date, and where no session is CLOSING it goes on to stage 2 at once (R176, log 26). -/
def Obligations.starts_keep_retained_state : Prop :=
  ∀ s : State,
    let p := s.power
    let closing (a : Track) (k : Session) : List SweepRequest :=
      if (s.plan a).session k = some .closing then [{ track := a, session := k, byStart := true }] else []
    let asked := allTracks.flatMap fun a => closing a .s1 ++ closing a .s2
    let first := if asked = [] then 2 else 1
    let started (i : Instr) (cause : StartCause) : Prop :=
      ∃ t, exec i s = .next t ∧
        t = (((((((s.withPower { mains := true, resetLow := false, startWaiting := false, battery := p.battery
                                 signature := true
                                 record := { cause := cause, time := s.now, lastRetain := p.record.lastRetain } }).withLink
            { receiver := .hunt, inHand := none, startRequested := false, raised := 0x40#8, mask := 0#8, broken := 0,
              overlapped := 0, bad := 0 }).withDesk
            { terminals := t.desk.terminals, taps := [], line := .idle, round := none }).withRing
            { s.ring with jobs := [], nextJob := 0 }).withSweep
            { s.sweep with queue := asked, flight := none }).withNotices
            t.notices).withCountUps { bells := [], waits := [], releases := [], timeouts := [] }).withDays
            { s.days with rollover :=
              match s.days.rollover with
              | some r => some (if r.stage = 1 then { r with new := s.clock.date, stage := first } else r)
              | none => if s.clock.isSet = true ∧ s.clock.date ≠ s.days.today then
                  some { old := s.days.today, new := s.clock.date, stage := first, position := 0, termStart := none,
                         selections := none }
                else none } ∧
        (∀ a, t.terminal a = { s.terminal a with
          state := if s.params.enables a then .offline else .disabled
          consecutive := if s.params.enables a then 0 else (s.terminal a).consecutive
          tapQueued := false, slot := none, due := s.params.enables a
          discarded := min 65535 ((s.terminal a).discarded + (s.desk.taps.filter fun t => t.terminal = a).length) }) ∧
        t.notices.list = (s.notices.list.filter fun n => n.mode = .none).map (fun n =>
          if n.isHanded then { n with state := .ready } else n) ∧
        t.notices.nextCreation = s.notices.nextCreation ∧ t.notices.order = s.notices.order ∧
        t.notices.hold = s.notices.hold ∧
        (s.notices.counters.withdrawn + s.notices.list.length ≤ 65535 →
          t.notices.counters = { s.notices.counters with withdrawn := s.notices.counters.withdrawn +
            (s.notices.list.filter fun n => n.mode ≠ .none).length })
    (p.signature = true →
      (p.mains = false → p.resetLow = false → started .powerReturn .powerReturn) ∧
      (p.mains = true → p.resetLow = true →
        started .pinReset (if p.startWaiting then .powerReturn else .pinReset)) ∧
      (s.blocksRun = true → s.link.startRequested = true → started .requestedStart .requested)) ∧
    (s.takesFrames = true → exec .partReset s = .next (s.withLink { s.link with
      receiver := .hunt, inHand := some { kind := 0x86#8, payload := [0#8], thenStart := true } })) ∧
    (∀ r, s.linkUp = true → s.link.inHand = some r → r.thenStart = true →
      exec .replyEnd s = .next (s.withLink { s.link with inHand := none, startRequested := true, receiver := .hunt }))

/-! ### Reading -/

/-- R8, R33, R64, R79, R97, R116, R119, R132, R145, R168, R174, R181: the reads are answered at any time with the state as it
stands, in the order of their rules, and change nothing; a range that runs past its end, and a log number not held, are
CLAMPED; and a selector out of range is BAD_FIELD. Where R188 leaves a layout open it is the model's (log 6); so is
the position 2,400 of a sweep past its last slot (log 22) and the date of a completion time (log 25). OFFSITE_READ answers with
each entry, and as of every answer no more than 1,040 bytes are sent, the first ones (`answered`, log 8). A read that is not well-formed is answered too
(log 19). -/
def Obligations.reads_answer_with_the_state : Prop :=
  ∀ s : State, s.takesFrames = true →
    let reads (i : Instr) (code : Byte) (p : Bytes) : Prop := exec i s = .next (s.answered code p)
    let flag (b : Bool) : Byte := if b then 1#8 else 0#8
    reads .clockRead 0x90#8 (0#8 :: (encDate s.clock.date ++ encTime s.clock.seconds ++
      [BitVec.ofNat 8 ((s.clock.date + 5) % 7), if s.clock.isSet then 0#8 else 1#8] ++ u16 s.clock.prescaler ++
      [flag s.clock.held])) ∧
    (∀ (i : BitVec 16) (n : Byte),
      let shown (m : Nat) : Bytes := BitVec.ofNat 8 m :: (List.range m).flatMap fun j =>
        match s.pupilAt (i.toNat + j) with
        | some p => 1#8 :: encPupil p
        | none => [0#8]
      (2400 ≤ i.toNat → reads (.rollRead i n) 0xA2#8 [3#8, 0#8]) ∧
      (i.toNat < 2400 → n = 0#8 ∨ 24 < n.toNat → reads (.rollRead i n) 0xA2#8 [3#8, 1#8]) ∧
      (1 ≤ n.toNat → n.toNat ≤ 24 → i.toNat + n.toNat ≤ 2400 → reads (.rollRead i n) 0xA2#8 (0#8 :: shown n.toNat)) ∧
      (n.toNat ≤ 24 → i.toNat < 2400 → 2400 < i.toNat + n.toNat →
        reads (.rollRead i n) 0xA2#8 (1#8 :: shown (2400 - i.toNat)))) ∧
    (∀ a : Track, reads (.trackRead (BitVec.ofNat 8 a.val)) 0xB5#8
      (let r := s.plan a;
        0#8 :: (encOption (fun n : Fin 16 => [BitVec.ofNat 8 n.val]) r.plan ++ [BitVec.ofNat 8 r.entries.length] ++
          encOption (fun j : Nat => [BitVec.ofNat 8 j]) (r.entries.findIdx? fun e => e.state = .pending) ++
          [BitVec.ofNat 8 (r.entries.filter RunningEntry.inserted).length] ++ encDayState r.day ++
          encOption encSessionState r.session1 ++ encOption encSessionState r.session2 ++ [flag r.silence] ++
          [BitVec.ofNat 8 r.entries.length] ++ r.entries.flatMap encRunningEntry))) ∧
    (∀ b : Byte, 6 ≤ b.toNat → reads (.trackRead b) 0xB5#8 [3#8, 0#8]) ∧
    reads .ringRead 0xC4#8 (0#8 :: (allZones.flatMap (encZone s.ring) ++ encOption u16 (s.ring.holder.map Job.number) ++
      encOption u8 s.ring.chime ++ [BitVec.ofNat 8 (s.ring.jobs.filter fun j => j.play.isSome).length] ++
      (s.ring.jobs.filter fun j => j.play.isSome).flatMap encPlaying ++
      [BitVec.ofNat 8 (s.ring.jobs.filter fun j => j.play = none).length] ++
      (s.ring.jobs.filter fun j => j.play = none).flatMap (encWaiting s.params.zoneRank) ++ u16 s.ring.degradedToday)) ∧
    reads .terminalRead 0xC8#8 (0#8 :: s.params.enabled.zeroExtend 8 :: BitVec.ofNat 8 s.desk.taps.length ::
      ([s.terminal 0, s.terminal 1, s.terminal 2, s.terminal 3].flatMap fun v =>
        encTerminalState v.state ++ [BitVec.ofNat 8 v.consecutive, flag v.tapQueued] ++ encOption encVerdict v.slot ++
          u16 v.taken ++ u16 v.discarded ++ u16 v.misses)) ∧
    reads .offsiteRead 0xD2#8 (0#8 :: BitVec.ofNat 8 s.arrivals.offsite.length :: s.arrivals.offsite.flatMap fun e =>
      u16 e.pupil ++ u24 (((s.pupilAt e.pupil).map Pupil.number).getD 0) ++ encTime e.seconds ++ encReason e.reason) ∧
    (∀ (n : BitVec 16) (c : Byte),
      let a := s.arrivals
      let shown (l : List LogRecord) : Bytes :=
        u16 (((a.log.head?).map LogRecord.sequence).getD a.nextSequence) ++ u16 a.nextSequence ++ u16 a.overwrites ++
          BitVec.ofNat 8 l.length :: l.flatMap encLog
      (c = 0#8 ∨ 32 < c.toNat → reads (.arrivalsRead n c) 0xD3#8 [3#8, 1#8]) ∧
      (1 ≤ c.toNat → c.toNat ≤ 32 →
        (∀ before g after, a.log = before ++ g :: after → g.sequence = n.toNat → (∀ h ∈ before, h.sequence ≠ n.toNat) →
          reads (.arrivalsRead n c) 0xD3#8 (0#8 :: shown ((g :: after).take c.toNat))) ∧
        ((∀ g ∈ a.log, g.sequence ≠ n.toNat) → n.toNat = a.nextSequence →
          reads (.arrivalsRead n c) 0xD3#8 (0#8 :: shown [])) ∧
        ((∀ g ∈ a.log, g.sequence ≠ n.toNat) → n.toNat ≠ a.nextSequence →
          reads (.arrivalsRead n c) 0xD3#8 (1#8 :: shown (a.log.take c.toNat))))) ∧
    reads .sweepRead 0xD8#8 (0#8 :: (encOption encFlight s.sweep.flight ++ [BitVec.ofNat 8 s.sweep.queue.length] ++
      (s.sweep.queue.flatMap fun r => BitVec.ofNat 8 r.track.val :: encSession r.session) ++
      encOption encResult s.sweep.last)) ∧
    (∀ position c : Byte,
      (c = 0#8 ∨ 32 < c.toNat → reads (.bookRead position c) 0xE2#8 [3#8, 1#8]) ∧
      (1 ≤ c.toNat → c.toNat ≤ 32 →
        let l := (s.book.drop position.toNat).take c.toNat
        reads (.bookRead position c) 0xE2#8 (0#8 :: (u16 s.book.length ++ BitVec.ofNat 8 l.length ::
          (l.mapIdx fun j e => BitVec.ofNat 8 (position.toNat + j) :: (u16 e.pupil ++
            u24 (((s.pupilAt e.pupil).map Pupil.number).getD 0) ++ encEntryFields e)).flatten)))) ∧
    reads .noticeCounts 0xEC#8
      (let q := s.notices;
        let many (p : Notice → Bool) : Byte := BitVec.ofNat 8 (q.list.filter p).length;
        0#8 :: BitVec.ofNat 8 q.list.length :: many Notice.isHeld :: many Notice.isReady :: many Notice.isHanded ::
          many (fun n => n.kind.index = 0) :: many (fun n => n.kind.index = 1) :: many (fun n => n.kind.index = 2) ::
          many (fun n => n.kind.index = 3) :: many (fun n => n.mode ≠ .none) :: flag q.hold ::
          BitVec.ofNat 8 q.order.val :: BitVec.ofNat 8 s.params.handedTimeout ::
          BitVec.ofNat 8 s.params.attemptLimit :: (u16 q.nextCreation ++ u16 q.counters.created ++
            u16 q.counters.delivered ++ u16 q.counters.abandoned ++ u16 q.counters.withdrawn ++ u16 q.counters.expired ++
            u16 q.counters.evicted ++ u16 q.counters.dropped)) ∧
    reads (.calendarRead .weekday) 0xF1#8 (0#8 :: s.days.weekdays.toList.flatMap fun d => d.toList.flatMap fun x =>
      match x with
      | some n => [BitVec.ofNat 8 n.val]
      | none => [16#8]) ∧
    (∀ b rest, reads (.calendarRead (.other b rest)) 0xF1#8 [3#8, 0#8]) ∧
    (∀ position c : Byte,
      (95 < position.toNat → reads (.calendarRead (.exceptions position c)) 0xF1#8 [3#8, 1#8]) ∧
      (position.toNat ≤ 95 → c = 0#8 ∨ 24 < c.toNat →
        reads (.calendarRead (.exceptions position c)) 0xF1#8 [3#8, 2#8]) ∧
      (position.toNat ≤ 95 → 1 ≤ c.toNat → c.toNat ≤ 24 →
        let l := (s.days.exceptions.drop position.toNat).take c.toNat
        reads (.calendarRead (.exceptions position c)) 0xF1#8 (0#8 :: BitVec.ofNat 8 s.days.exceptions.length ::
          BitVec.ofNat 8 l.length :: (l.mapIdx fun j x => BitVec.ofNat 8 (position.toNat + j) :: (encDate x.1 ++
            [BitVec.ofNat 8 ((x.1 + 5) % 7), flag x.2.closed, flag x.2.termStart] ++
            x.2.selections.toList.flatMap encSelection)).flatten))) ∧
    (∃ d : DaySummary, reads (.summaryRead 0#8) 0xF2#8 (0#8 :: encSummary d) ∧ d.date = s.days.today ∧ d.closedBy = none ∧
      (∀ a : Track, d.tracks[a].plan = (s.plan a).plan ∧
        d.tracks[a].pupils = (s.roll.filter fun e => e.2.track = a).length ∧
        ∀ v : MarkValue, ∀ x : Fin 7, [BitVec.ofNat 8 x.val] = encMarkValue v →
          d.tracks[a].session1[x] = (s.roll.filter fun e => e.2.track = a && e.2.mark1.value = v).length ∧
          d.tracks[a].session2[x] = (s.roll.filter fun e => e.2.track = a && e.2.mark2.value = v).length) ∧
      d.lateMinutes = (s.roll.map fun e => e.2.mark1.charge + e.2.mark2.charge).sum ∧ d.notices = s.notices.counters ∧
      d.tapsDiscarded = (s.terminal 0).discarded + (s.terminal 1).discarded + (s.terminal 2).discarded +
        (s.terminal 3).discarded ∧
      d.overwrites = s.arrivals.overwrites ∧ d.degraded = s.ring.degradedToday ∧
      d.notReturned = s.arrivals.offsite.length ∧
      let dated := s.book.filter fun e => e.date = s.days.today
      d.bookUsed = (dated.filter BookEntry.used).length ∧
      d.bookContradicted = (dated.filter BookEntry.contradicted).length ∧
      d.bookUnused = (dated.filter fun e => !e.used && !e.contradicted).length) ∧
    (∀ d, s.days.closed = some d → reads (.summaryRead 1#8) 0xF2#8 (0#8 :: encSummary d)) ∧
    (s.days.closed = none → reads (.summaryRead 1#8) 0xF2#8 [4#8]) ∧
    (∀ b : Byte, 1 < b.toNat → reads (.summaryRead b) 0xF2#8 [3#8, 0#8])

end
end

