-- ==== Sys2Proof/Laws/Codec.lean ====
section
/-! SUPPORT. Reading back what is written: fields of several bytes and the items of a list payload (R188). -/

namespace Sys2Proof

@[simp] theorem bytes16_length (x : BitVec 16) : (bytes16 x).length = 2 := rfl
@[simp] theorem bytes24_length (x : BitVec 24) : (bytes24 x).length = 3 := rfl
@[simp] theorem bytes32_length (x : BitVec 32) : (bytes32 x).length = 4 := rfl

@[simp] theorem join16_bytes (x : BitVec 16) : join16 (x.extractLsb' 8 8) (x.extractLsb' 0 8) = x := by
  apply BitVec.eq_of_getLsbD_eq
  intro i hi
  simp only [join16, BitVec.getLsbD_append, BitVec.getLsbD_extractLsb']
  by_cases h : i < 8
  · simp [h]
  · have : i - 8 < 8 := by omega
    simp [h, this]
    congr 1
    omega

@[simp] theorem join24_bytes (x : BitVec 24) :
    join24 (x.extractLsb' 16 8) (x.extractLsb' 8 8) (x.extractLsb' 0 8) = x := by
  apply BitVec.eq_of_getLsbD_eq
  intro i hi
  simp only [join24, BitVec.getLsbD_append, BitVec.getLsbD_extractLsb']
  by_cases h : i < 8
  · simp [h]
  · by_cases h2 : i < 16
    · have : i - 8 < 8 := by omega
      simp [h, this]
      congr 1
      omega
    · have h3 : ¬ i - 8 < 8 := by omega
      have h4 : i - 8 - 8 < 8 := by omega
      simp [h, h3, h4]
      congr 1
      omega

@[simp] theorem join32_bytes (x : BitVec 32) :
    join32 (x.extractLsb' 24 8) (x.extractLsb' 16 8) (x.extractLsb' 8 8) (x.extractLsb' 0 8) = x := by
  apply BitVec.eq_of_getLsbD_eq
  intro i hi
  simp only [join32, BitVec.getLsbD_append, BitVec.getLsbD_extractLsb']
  by_cases h : i < 8
  · simp [h]
  · by_cases h2 : i < 16
    · have : i - 8 < 8 := by omega
      simp [h, this]
      congr 1
      omega
    · have h3 : ¬ i - 8 < 8 := by omega
      by_cases h5 : i < 24
      · have h4 : i - 8 - 8 < 8 := by omega
        simp [h, h3, h4]
        congr 1
        omega
      · have h4 : ¬ i - 8 - 8 < 8 := by omega
        have h6 : i - 8 - 8 - 8 < 8 := by omega
        simp [h, h3, h4, h6]
        congr 1
        omega

/-- The records of ROLL_WRITE read back. -/
@[simp] theorem readRecords_bytes (l : List RollItem) : readRecords (l.flatMap rollItemBytes) = some l := by
  induction l with
  | nil => rfl
  | cons r l ih => simp [rollItemBytes, bytes32, bytes24, readRecords, ih]

/-- The entries of PLAN_LOAD read back. -/
@[simp] theorem readPlanItems_bytes (l : List PlanItem) : readPlanItems (l.flatMap planItemBytes) = some l := by
  induction l with
  | nil => rfl
  | cons r l ih => simp [planItemBytes, timeBytes, readPlanItems, ih]

/-- The entries of TRACK_INSERT read back. -/
@[simp] theorem readInsertItems_bytes (l : List InsertItem) : readInsertItems (l.flatMap insertItemBytes) = some l := by
  induction l with
  | nil => rfl
  | cons r l ih => simp [insertItemBytes, timeBytes, readInsertItems, ih]

/-- The steps of PATTERN_LOAD read back. -/
@[simp] theorem readSteps_bytes (l : List StepItem) : readSteps (l.flatMap stepItemBytes) = some l := by
  induction l with
  | nil => rfl
  | cons r l ih => simp [stepItemBytes, readSteps, ih]

/-- A vector of six is the list of its items. -/
theorem six_toList {α : Type} (v : Vector α 6) : v.toList = [v[0], v[1], v[2], v[3], v[4], v[5]] := by
  apply List.ext_getElem
  · simp
  · intro n h1 h2
    have : n < 6 := by simpa using h1
    match n with
    | 0 => simp
    | 1 => simp
    | 2 => simp
    | 3 => simp
    | 4 => simp
    | 5 => simp

/-- A vector of six is made of its items. -/
theorem six_mk {α : Type} (v : Vector α 6) : #v[v[0], v[1], v[2], v[3], v[4], v[5]] = v := by
  apply Vector.toList_inj.1
  rw [six_toList v]
  rfl

/-- The exceptions of CALENDAR_LOAD read back. -/
@[simp] theorem readExceptionItems_bytes (l : List ExceptionItem) :
    readExceptionItems (l.flatMap exceptionItemBytes) = some l := by
  induction l with
  | nil => rfl
  | cons x l ih =>
    obtain ⟨d, c, t, v⟩ := x
    simp [exceptionItemBytes, dateBytes, six_toList v, readExceptionItems, ih]
    exact congrArg Vector.toArray (six_mk v)

/-- The dates of CALENDAR_LOAD read back. -/
@[simp] theorem readDates_bytes (l : List DateField) : readDates (l.flatMap dateBytes) = some l := by
  induction l with
  | nil => rfl
  | cons d l ih => simp [dateBytes, readDates, ih]

/-- Items of one size make a payload of that size times their number. -/
theorem flatMap_length_const {α : Type} (f : α → Bytes) (n : Nat) (h : ∀ a, (f a).length = n) (l : List α) :
    (l.flatMap f).length = n * l.length := by
  induction l with
  | nil => simp
  | cons a l ih => simp [h, ih, Nat.mul_add, Nat.add_comm]

theorem rollItemBytes_length (r : RollItem) : (rollItemBytes r).length = 9 := rfl
theorem planItemBytes_length (e : PlanItem) : (planItemBytes e).length = 7 := rfl
theorem insertItemBytes_length (e : InsertItem) : (insertItemBytes e).length = 5 := rfl
theorem stepItemBytes_length (p : StepItem) : (stepItemBytes p).length = 4 := rfl
theorem dateBytes_length (d : DateField) : (dateBytes d).length = 3 := rfl
theorem exceptionItemBytes_length (x : ExceptionItem) : (exceptionItemBytes x).length = 11 := by
  simp [exceptionItemBytes, dateBytes]

/-- A kind code has a reader just when it names a request (R189). -/
theorem readerOf_isSome : ∀ k : Byte, (readerOf k).isSome = namesRequest k := by decide

end Sys2Proof
end

