-- ==== Sys2Proof/Laws/Keyed.lean ====
section
/-! SUPPORT. Keyed lists: reading after writing and removing, and the canonical form that every operation keeps. -/

namespace Sys2Proof.Machine

variable {α : Type}

/-- Reading a key after a write to it gives the value written, and any other key reads as before. -/
theorem keyGet_keyPut (k j : Nat) (a : α) (l : List (Nat × α)) :
    keyGet k (keyPut j a l) = if j = k then some a else keyGet k l := by
  induction l with
  | nil => simp [keyPut, keyGet]
  | cons e l ih =>
    obtain ⟨i, b⟩ := e
    unfold keyPut
    split
    · simp [keyGet]
    · split
      · next hij => subst hij; by_cases h : i = k <;> simp [keyGet, h]
      · next hij =>
        by_cases hik : i = k
        · have : j ≠ k := by omega
          simp [keyGet, hik, this]
        · simp [keyGet, hik, ih]

/-- Reading a key after a removal gives nothing for the removed key, and any other key reads as before. -/
theorem keyGet_keyDrop (k j : Nat) (l : List (Nat × α)) :
    keyGet k (keyDrop j l) = if j = k then none else keyGet k l := by
  induction l with
  | nil => simp [keyDrop, keyGet]
  | cons e l ih =>
    obtain ⟨i, b⟩ := e
    unfold keyDrop at ih ⊢
    by_cases hij : i = j <;> by_cases hik : i = k <;> by_cases hjk : j = k <;> simp_all [keyGet]

/-- A key below every key of a list in canonical form is not in it. -/
theorem keyGet_below {k j : Nat} {a : α} {l : List (Nat × α)} (h : keysRise ((j, a) :: l) = true) (hk : k < j) :
    keyGet k ((j, a) :: l) = none := by
  induction l generalizing j a with
  | nil => simp [keyGet]; omega
  | cons e l ih =>
    obtain ⟨i, b⟩ := e
    simp only [keysRise, Bool.and_eq_true, decide_eq_true_eq] at h
    have := ih h.2 (by omega)
    have hjk : j ≠ k := by omega
    simpa [keyGet, hjk] using this

/-- The tail of a list in canonical form is in canonical form. -/
theorem keysRise_tail {e : Nat × α} {l : List (Nat × α)} (h : keysRise (e :: l) = true) : keysRise l = true := by
  cases l with
  | nil => rfl
  | cons f l => simp only [keysRise, Bool.and_eq_true] at h; exact h.2

/-- The head of a list in canonical form lies below every other key. -/
theorem keysRise_head {e f : Nat × α} {l : List (Nat × α)} (h : keysRise (e :: l) = true) (hf : f ∈ l) : e.1 < f.1 := by
  induction l generalizing e with
  | nil => cases hf
  | cons g l ih =>
    simp only [keysRise, Bool.and_eq_true, decide_eq_true_eq] at h
    cases hf with
    | head => exact h.1
    | tail _ hf => have := ih h.2 hf; omega

/-- A list is in canonical form when its head lies below every other key and its tail is in canonical form. -/
theorem keysRise_cons {e : Nat × α} {l : List (Nat × α)} (h : ∀ f ∈ l, e.1 < f.1) (hl : keysRise l = true) :
    keysRise (e :: l) = true := by
  cases l with
  | nil => rfl
  | cons f l => simp [keysRise, h f (by simp), hl]

/-- What stands in a list after a write was there before or is what was written. -/
theorem mem_keyPut {k : Nat} {a : α} {l : List (Nat × α)} {e : Nat × α} (h : e ∈ keyPut k a l) :
    e = (k, a) ∨ e ∈ l := by
  induction l with
  | nil => simpa [keyPut] using h
  | cons f l ih =>
    unfold keyPut at h
    split at h
    · simpa using h
    · split at h
      · rcases List.mem_cons.1 h with h | h
        · exact .inl h
        · exact .inr (List.mem_cons_of_mem _ h)
      · rcases List.mem_cons.1 h with h | h
        · exact .inr (h ▸ List.mem_cons_self)
        · exact (ih h).imp_right (List.mem_cons_of_mem _)

/-- A write keeps the canonical form. -/
theorem keysRise_keyPut (k : Nat) (a : α) {l : List (Nat × α)} (h : keysRise l = true) :
    keysRise (keyPut k a l) = true := by
  induction l with
  | nil => rfl
  | cons e l ih =>
    unfold keyPut
    split
    · next hk =>
      refine keysRise_cons (fun f hf => ?_) h
      cases hf with
      | head => exact hk
      | tail _ hf => exact Nat.lt_trans hk (keysRise_head h hf)
    · split
      · next hk => subst hk; exact keysRise_cons (fun f hf => keysRise_head (e := e) h hf) (keysRise_tail h)
      · next h1 h2 =>
        refine keysRise_cons (fun f hf => ?_) (ih (keysRise_tail h))
        rcases mem_keyPut hf with rfl | hf
        · simp; omega
        · exact keysRise_head h hf

/-- Taking entries out keeps the canonical form. -/
theorem keysRise_filter (p : Nat × α → Bool) {l : List (Nat × α)} (h : keysRise l = true) :
    keysRise (l.filter p) = true := by
  induction l with
  | nil => rfl
  | cons e l ih =>
    rw [List.filter_cons]
    split
    · exact keysRise_cons (fun f hf => keysRise_head h (List.mem_filter.1 hf).1) (ih (keysRise_tail h))
    · exact ih (keysRise_tail h)

/-- A removal keeps the canonical form. -/
theorem keysRise_keyDrop (k : Nat) {l : List (Nat × α)} (h : keysRise l = true) : keysRise (keyDrop k l) = true :=
  keysRise_filter _ h

/-- Changing values alone keeps the canonical form. -/
theorem keysRise_map {β : Type} (f : α → β) {l : List (Nat × α)} (h : keysRise l = true) :
    keysRise (l.map fun e => (e.1, f e.2)) = true := by
  induction l with
  | nil => rfl
  | cons e l ih =>
    refine keysRise_cons (fun g hg => ?_) (ih (keysRise_tail h))
    obtain ⟨g', hg', rfl⟩ := List.mem_map.1 hg
    exact keysRise_head (e := e) h hg'

/-- Changing values alone changes what a key reads as in that way. -/
theorem keyGet_map {β : Type} (f : α → β) (k : Nat) (l : List (Nat × α)) :
    keyGet k (l.map fun e => (e.1, f e.2)) = (keyGet k l).map f := by
  induction l with
  | nil => rfl
  | cons e l ih =>
    obtain ⟨i, b⟩ := e
    by_cases h : i = k <;> simp_all [keyGet]

/-- In canonical form an entry of the list is what its key reads as. -/
theorem keyGet_of_mem {l : List (Nat × α)} (h : keysRise l = true) {e : Nat × α} (he : e ∈ l) :
    keyGet e.1 l = some e.2 := by
  induction l with
  | nil => cases he
  | cons f l ih =>
    cases he with
    | head => simp [keyGet]
    | tail _ he =>
      have hne : f.1 ≠ e.1 := Nat.ne_of_lt (keysRise_head h he)
      obtain ⟨i, b⟩ := f
      simpa [keyGet, hne] using ih (keysRise_tail h) he

/-- What a key reads as stands in the list. -/
theorem mem_of_keyGet {l : List (Nat × α)} {k : Nat} {a : α} (h : keyGet k l = some a) : (k, a) ∈ l := by
  induction l with
  | nil => simp [keyGet] at h
  | cons f l ih =>
    obtain ⟨i, b⟩ := f
    by_cases hik : i = k
    · simp [keyGet, hik] at h; simp [h, hik]
    · simp [keyGet, hik] at h; exact List.mem_cons_of_mem _ (ih h)

end Sys2Proof.Machine
end

