-- ==== Sys2Proof/Laws/State.lean ====
section
/-! SUPPORT. One lemma per field and update of State: what each named update leaves and writes. -/

namespace Sys2Proof.Machine

@[simp] theorem State.withPower_pending (s : State) (v : Power) : (s.withPower v).pending = s.pending := rfl
@[simp] theorem State.withPower_power (s : State) (v : Power) : (s.withPower v).power = v := rfl
@[simp] theorem State.withPower_link (s : State) (v : Power) : (s.withPower v).link = s.link := rfl
@[simp] theorem State.withPower_params (s : State) (v : Power) : (s.withPower v).params = s.params := rfl
@[simp] theorem State.withPower_clock (s : State) (v : Power) : (s.withPower v).clock = s.clock := rfl
@[simp] theorem State.withPower_countUps (s : State) (v : Power) : (s.withPower v).countUps = s.countUps := rfl
@[simp] theorem State.withPower_roll (s : State) (v : Power) : (s.withPower v).roll = s.roll := rfl
@[simp] theorem State.withPower_cards (s : State) (v : Power) : (s.withPower v).cards = s.cards := rfl
@[simp] theorem State.withPower_plans (s : State) (v : Power) : (s.withPower v).plans = s.plans := rfl
@[simp] theorem State.withPower_running (s : State) (v : Power) : (s.withPower v).running = s.running := rfl
@[simp] theorem State.withPower_ring (s : State) (v : Power) : (s.withPower v).ring = s.ring := rfl
@[simp] theorem State.withPower_desk (s : State) (v : Power) : (s.withPower v).desk = s.desk := rfl
@[simp] theorem State.withPower_arrivals (s : State) (v : Power) : (s.withPower v).arrivals = s.arrivals := rfl
@[simp] theorem State.withPower_sweep (s : State) (v : Power) : (s.withPower v).sweep = s.sweep := rfl
@[simp] theorem State.withPower_book (s : State) (v : Power) : (s.withPower v).book = s.book := rfl
@[simp] theorem State.withPower_notices (s : State) (v : Power) : (s.withPower v).notices = s.notices := rfl
@[simp] theorem State.withPower_days (s : State) (v : Power) : (s.withPower v).days = s.days := rfl

@[simp] theorem State.withLink_pending (s : State) (v : Link) : (s.withLink v).pending = s.pending := rfl
@[simp] theorem State.withLink_power (s : State) (v : Link) : (s.withLink v).power = s.power := rfl
@[simp] theorem State.withLink_link (s : State) (v : Link) : (s.withLink v).link = v := rfl
@[simp] theorem State.withLink_params (s : State) (v : Link) : (s.withLink v).params = s.params := rfl
@[simp] theorem State.withLink_clock (s : State) (v : Link) : (s.withLink v).clock = s.clock := rfl
@[simp] theorem State.withLink_countUps (s : State) (v : Link) : (s.withLink v).countUps = s.countUps := rfl
@[simp] theorem State.withLink_roll (s : State) (v : Link) : (s.withLink v).roll = s.roll := rfl
@[simp] theorem State.withLink_cards (s : State) (v : Link) : (s.withLink v).cards = s.cards := rfl
@[simp] theorem State.withLink_plans (s : State) (v : Link) : (s.withLink v).plans = s.plans := rfl
@[simp] theorem State.withLink_running (s : State) (v : Link) : (s.withLink v).running = s.running := rfl
@[simp] theorem State.withLink_ring (s : State) (v : Link) : (s.withLink v).ring = s.ring := rfl
@[simp] theorem State.withLink_desk (s : State) (v : Link) : (s.withLink v).desk = s.desk := rfl
@[simp] theorem State.withLink_arrivals (s : State) (v : Link) : (s.withLink v).arrivals = s.arrivals := rfl
@[simp] theorem State.withLink_sweep (s : State) (v : Link) : (s.withLink v).sweep = s.sweep := rfl
@[simp] theorem State.withLink_book (s : State) (v : Link) : (s.withLink v).book = s.book := rfl
@[simp] theorem State.withLink_notices (s : State) (v : Link) : (s.withLink v).notices = s.notices := rfl
@[simp] theorem State.withLink_days (s : State) (v : Link) : (s.withLink v).days = s.days := rfl

@[simp] theorem State.withParams_pending (s : State) (v : Params) : (s.withParams v).pending = s.pending := rfl
@[simp] theorem State.withParams_power (s : State) (v : Params) : (s.withParams v).power = s.power := rfl
@[simp] theorem State.withParams_link (s : State) (v : Params) : (s.withParams v).link = s.link := rfl
@[simp] theorem State.withParams_params (s : State) (v : Params) : (s.withParams v).params = v := rfl
@[simp] theorem State.withParams_clock (s : State) (v : Params) : (s.withParams v).clock = s.clock := rfl
@[simp] theorem State.withParams_countUps (s : State) (v : Params) : (s.withParams v).countUps = s.countUps := rfl
@[simp] theorem State.withParams_roll (s : State) (v : Params) : (s.withParams v).roll = s.roll := rfl
@[simp] theorem State.withParams_cards (s : State) (v : Params) : (s.withParams v).cards = s.cards := rfl
@[simp] theorem State.withParams_plans (s : State) (v : Params) : (s.withParams v).plans = s.plans := rfl
@[simp] theorem State.withParams_running (s : State) (v : Params) : (s.withParams v).running = s.running := rfl
@[simp] theorem State.withParams_ring (s : State) (v : Params) : (s.withParams v).ring = s.ring := rfl
@[simp] theorem State.withParams_desk (s : State) (v : Params) : (s.withParams v).desk = s.desk := rfl
@[simp] theorem State.withParams_arrivals (s : State) (v : Params) : (s.withParams v).arrivals = s.arrivals := rfl
@[simp] theorem State.withParams_sweep (s : State) (v : Params) : (s.withParams v).sweep = s.sweep := rfl
@[simp] theorem State.withParams_book (s : State) (v : Params) : (s.withParams v).book = s.book := rfl
@[simp] theorem State.withParams_notices (s : State) (v : Params) : (s.withParams v).notices = s.notices := rfl
@[simp] theorem State.withParams_days (s : State) (v : Params) : (s.withParams v).days = s.days := rfl

@[simp] theorem State.withClock_pending (s : State) (v : Clock) : (s.withClock v).pending = s.pending := rfl
@[simp] theorem State.withClock_power (s : State) (v : Clock) : (s.withClock v).power = s.power := rfl
@[simp] theorem State.withClock_link (s : State) (v : Clock) : (s.withClock v).link = s.link := rfl
@[simp] theorem State.withClock_params (s : State) (v : Clock) : (s.withClock v).params = s.params := rfl
@[simp] theorem State.withClock_clock (s : State) (v : Clock) : (s.withClock v).clock = v := rfl
@[simp] theorem State.withClock_countUps (s : State) (v : Clock) : (s.withClock v).countUps = s.countUps := rfl
@[simp] theorem State.withClock_roll (s : State) (v : Clock) : (s.withClock v).roll = s.roll := rfl
@[simp] theorem State.withClock_cards (s : State) (v : Clock) : (s.withClock v).cards = s.cards := rfl
@[simp] theorem State.withClock_plans (s : State) (v : Clock) : (s.withClock v).plans = s.plans := rfl
@[simp] theorem State.withClock_running (s : State) (v : Clock) : (s.withClock v).running = s.running := rfl
@[simp] theorem State.withClock_ring (s : State) (v : Clock) : (s.withClock v).ring = s.ring := rfl
@[simp] theorem State.withClock_desk (s : State) (v : Clock) : (s.withClock v).desk = s.desk := rfl
@[simp] theorem State.withClock_arrivals (s : State) (v : Clock) : (s.withClock v).arrivals = s.arrivals := rfl
@[simp] theorem State.withClock_sweep (s : State) (v : Clock) : (s.withClock v).sweep = s.sweep := rfl
@[simp] theorem State.withClock_book (s : State) (v : Clock) : (s.withClock v).book = s.book := rfl
@[simp] theorem State.withClock_notices (s : State) (v : Clock) : (s.withClock v).notices = s.notices := rfl
@[simp] theorem State.withClock_days (s : State) (v : Clock) : (s.withClock v).days = s.days := rfl

@[simp] theorem State.withCountUps_pending (s : State) (v : CountUps) : (s.withCountUps v).pending = s.pending := rfl
@[simp] theorem State.withCountUps_power (s : State) (v : CountUps) : (s.withCountUps v).power = s.power := rfl
@[simp] theorem State.withCountUps_link (s : State) (v : CountUps) : (s.withCountUps v).link = s.link := rfl
@[simp] theorem State.withCountUps_params (s : State) (v : CountUps) : (s.withCountUps v).params = s.params := rfl
@[simp] theorem State.withCountUps_clock (s : State) (v : CountUps) : (s.withCountUps v).clock = s.clock := rfl
@[simp] theorem State.withCountUps_countUps (s : State) (v : CountUps) : (s.withCountUps v).countUps = v := rfl
@[simp] theorem State.withCountUps_roll (s : State) (v : CountUps) : (s.withCountUps v).roll = s.roll := rfl
@[simp] theorem State.withCountUps_cards (s : State) (v : CountUps) : (s.withCountUps v).cards = s.cards := rfl
@[simp] theorem State.withCountUps_plans (s : State) (v : CountUps) : (s.withCountUps v).plans = s.plans := rfl
@[simp] theorem State.withCountUps_running (s : State) (v : CountUps) : (s.withCountUps v).running = s.running := rfl
@[simp] theorem State.withCountUps_ring (s : State) (v : CountUps) : (s.withCountUps v).ring = s.ring := rfl
@[simp] theorem State.withCountUps_desk (s : State) (v : CountUps) : (s.withCountUps v).desk = s.desk := rfl
@[simp] theorem State.withCountUps_arrivals (s : State) (v : CountUps) : (s.withCountUps v).arrivals = s.arrivals := rfl
@[simp] theorem State.withCountUps_sweep (s : State) (v : CountUps) : (s.withCountUps v).sweep = s.sweep := rfl
@[simp] theorem State.withCountUps_book (s : State) (v : CountUps) : (s.withCountUps v).book = s.book := rfl
@[simp] theorem State.withCountUps_notices (s : State) (v : CountUps) : (s.withCountUps v).notices = s.notices := rfl
@[simp] theorem State.withCountUps_days (s : State) (v : CountUps) : (s.withCountUps v).days = s.days := rfl

@[simp] theorem State.withRoll_pending (s : State) (v : Roll) : (s.withRoll v).pending = s.pending := rfl
@[simp] theorem State.withRoll_power (s : State) (v : Roll) : (s.withRoll v).power = s.power := rfl
@[simp] theorem State.withRoll_link (s : State) (v : Roll) : (s.withRoll v).link = s.link := rfl
@[simp] theorem State.withRoll_params (s : State) (v : Roll) : (s.withRoll v).params = s.params := rfl
@[simp] theorem State.withRoll_clock (s : State) (v : Roll) : (s.withRoll v).clock = s.clock := rfl
@[simp] theorem State.withRoll_countUps (s : State) (v : Roll) : (s.withRoll v).countUps = s.countUps := rfl
@[simp] theorem State.withRoll_roll (s : State) (v : Roll) : (s.withRoll v).roll = v := rfl
@[simp] theorem State.withRoll_cards (s : State) (v : Roll) : (s.withRoll v).cards = s.cards := rfl
@[simp] theorem State.withRoll_plans (s : State) (v : Roll) : (s.withRoll v).plans = s.plans := rfl
@[simp] theorem State.withRoll_running (s : State) (v : Roll) : (s.withRoll v).running = s.running := rfl
@[simp] theorem State.withRoll_ring (s : State) (v : Roll) : (s.withRoll v).ring = s.ring := rfl
@[simp] theorem State.withRoll_desk (s : State) (v : Roll) : (s.withRoll v).desk = s.desk := rfl
@[simp] theorem State.withRoll_arrivals (s : State) (v : Roll) : (s.withRoll v).arrivals = s.arrivals := rfl
@[simp] theorem State.withRoll_sweep (s : State) (v : Roll) : (s.withRoll v).sweep = s.sweep := rfl
@[simp] theorem State.withRoll_book (s : State) (v : Roll) : (s.withRoll v).book = s.book := rfl
@[simp] theorem State.withRoll_notices (s : State) (v : Roll) : (s.withRoll v).notices = s.notices := rfl
@[simp] theorem State.withRoll_days (s : State) (v : Roll) : (s.withRoll v).days = s.days := rfl

@[simp] theorem State.withCards_pending (s : State) (v : CardIndex) : (s.withCards v).pending = s.pending := rfl
@[simp] theorem State.withCards_power (s : State) (v : CardIndex) : (s.withCards v).power = s.power := rfl
@[simp] theorem State.withCards_link (s : State) (v : CardIndex) : (s.withCards v).link = s.link := rfl
@[simp] theorem State.withCards_params (s : State) (v : CardIndex) : (s.withCards v).params = s.params := rfl
@[simp] theorem State.withCards_clock (s : State) (v : CardIndex) : (s.withCards v).clock = s.clock := rfl
@[simp] theorem State.withCards_countUps (s : State) (v : CardIndex) : (s.withCards v).countUps = s.countUps := rfl
@[simp] theorem State.withCards_roll (s : State) (v : CardIndex) : (s.withCards v).roll = s.roll := rfl
@[simp] theorem State.withCards_cards (s : State) (v : CardIndex) : (s.withCards v).cards = v := rfl
@[simp] theorem State.withCards_plans (s : State) (v : CardIndex) : (s.withCards v).plans = s.plans := rfl
@[simp] theorem State.withCards_running (s : State) (v : CardIndex) : (s.withCards v).running = s.running := rfl
@[simp] theorem State.withCards_ring (s : State) (v : CardIndex) : (s.withCards v).ring = s.ring := rfl
@[simp] theorem State.withCards_desk (s : State) (v : CardIndex) : (s.withCards v).desk = s.desk := rfl
@[simp] theorem State.withCards_arrivals (s : State) (v : CardIndex) : (s.withCards v).arrivals = s.arrivals := rfl
@[simp] theorem State.withCards_sweep (s : State) (v : CardIndex) : (s.withCards v).sweep = s.sweep := rfl
@[simp] theorem State.withCards_book (s : State) (v : CardIndex) : (s.withCards v).book = s.book := rfl
@[simp] theorem State.withCards_notices (s : State) (v : CardIndex) : (s.withCards v).notices = s.notices := rfl
@[simp] theorem State.withCards_days (s : State) (v : CardIndex) : (s.withCards v).days = s.days := rfl

@[simp] theorem State.withPlans_pending (s : State) (v : Vector (List PlanEntry) 16) : (s.withPlans v).pending = s.pending := rfl
@[simp] theorem State.withPlans_power (s : State) (v : Vector (List PlanEntry) 16) : (s.withPlans v).power = s.power := rfl
@[simp] theorem State.withPlans_link (s : State) (v : Vector (List PlanEntry) 16) : (s.withPlans v).link = s.link := rfl
@[simp] theorem State.withPlans_params (s : State) (v : Vector (List PlanEntry) 16) : (s.withPlans v).params = s.params := rfl
@[simp] theorem State.withPlans_clock (s : State) (v : Vector (List PlanEntry) 16) : (s.withPlans v).clock = s.clock := rfl
@[simp] theorem State.withPlans_countUps (s : State) (v : Vector (List PlanEntry) 16) : (s.withPlans v).countUps = s.countUps := rfl
@[simp] theorem State.withPlans_roll (s : State) (v : Vector (List PlanEntry) 16) : (s.withPlans v).roll = s.roll := rfl
@[simp] theorem State.withPlans_cards (s : State) (v : Vector (List PlanEntry) 16) : (s.withPlans v).cards = s.cards := rfl
@[simp] theorem State.withPlans_plans (s : State) (v : Vector (List PlanEntry) 16) : (s.withPlans v).plans = v := rfl
@[simp] theorem State.withPlans_running (s : State) (v : Vector (List PlanEntry) 16) : (s.withPlans v).running = s.running := rfl
@[simp] theorem State.withPlans_ring (s : State) (v : Vector (List PlanEntry) 16) : (s.withPlans v).ring = s.ring := rfl
@[simp] theorem State.withPlans_desk (s : State) (v : Vector (List PlanEntry) 16) : (s.withPlans v).desk = s.desk := rfl
@[simp] theorem State.withPlans_arrivals (s : State) (v : Vector (List PlanEntry) 16) : (s.withPlans v).arrivals = s.arrivals := rfl
@[simp] theorem State.withPlans_sweep (s : State) (v : Vector (List PlanEntry) 16) : (s.withPlans v).sweep = s.sweep := rfl
@[simp] theorem State.withPlans_book (s : State) (v : Vector (List PlanEntry) 16) : (s.withPlans v).book = s.book := rfl
@[simp] theorem State.withPlans_notices (s : State) (v : Vector (List PlanEntry) 16) : (s.withPlans v).notices = s.notices := rfl
@[simp] theorem State.withPlans_days (s : State) (v : Vector (List PlanEntry) 16) : (s.withPlans v).days = s.days := rfl

@[simp] theorem State.withRunning_pending (s : State) (v : Vector RunningPlan 6) : (s.withRunning v).pending = s.pending := rfl
@[simp] theorem State.withRunning_power (s : State) (v : Vector RunningPlan 6) : (s.withRunning v).power = s.power := rfl
@[simp] theorem State.withRunning_link (s : State) (v : Vector RunningPlan 6) : (s.withRunning v).link = s.link := rfl
@[simp] theorem State.withRunning_params (s : State) (v : Vector RunningPlan 6) : (s.withRunning v).params = s.params := rfl
@[simp] theorem State.withRunning_clock (s : State) (v : Vector RunningPlan 6) : (s.withRunning v).clock = s.clock := rfl
@[simp] theorem State.withRunning_countUps (s : State) (v : Vector RunningPlan 6) : (s.withRunning v).countUps = s.countUps := rfl
@[simp] theorem State.withRunning_roll (s : State) (v : Vector RunningPlan 6) : (s.withRunning v).roll = s.roll := rfl
@[simp] theorem State.withRunning_cards (s : State) (v : Vector RunningPlan 6) : (s.withRunning v).cards = s.cards := rfl
@[simp] theorem State.withRunning_plans (s : State) (v : Vector RunningPlan 6) : (s.withRunning v).plans = s.plans := rfl
@[simp] theorem State.withRunning_running (s : State) (v : Vector RunningPlan 6) : (s.withRunning v).running = v := rfl
@[simp] theorem State.withRunning_ring (s : State) (v : Vector RunningPlan 6) : (s.withRunning v).ring = s.ring := rfl
@[simp] theorem State.withRunning_desk (s : State) (v : Vector RunningPlan 6) : (s.withRunning v).desk = s.desk := rfl
@[simp] theorem State.withRunning_arrivals (s : State) (v : Vector RunningPlan 6) : (s.withRunning v).arrivals = s.arrivals := rfl
@[simp] theorem State.withRunning_sweep (s : State) (v : Vector RunningPlan 6) : (s.withRunning v).sweep = s.sweep := rfl
@[simp] theorem State.withRunning_book (s : State) (v : Vector RunningPlan 6) : (s.withRunning v).book = s.book := rfl
@[simp] theorem State.withRunning_notices (s : State) (v : Vector RunningPlan 6) : (s.withRunning v).notices = s.notices := rfl
@[simp] theorem State.withRunning_days (s : State) (v : Vector RunningPlan 6) : (s.withRunning v).days = s.days := rfl

@[simp] theorem State.withRing_pending (s : State) (v : RingUnit) : (s.withRing v).pending = s.pending := rfl
@[simp] theorem State.withRing_power (s : State) (v : RingUnit) : (s.withRing v).power = s.power := rfl
@[simp] theorem State.withRing_link (s : State) (v : RingUnit) : (s.withRing v).link = s.link := rfl
@[simp] theorem State.withRing_params (s : State) (v : RingUnit) : (s.withRing v).params = s.params := rfl
@[simp] theorem State.withRing_clock (s : State) (v : RingUnit) : (s.withRing v).clock = s.clock := rfl
@[simp] theorem State.withRing_countUps (s : State) (v : RingUnit) : (s.withRing v).countUps = s.countUps := rfl
@[simp] theorem State.withRing_roll (s : State) (v : RingUnit) : (s.withRing v).roll = s.roll := rfl
@[simp] theorem State.withRing_cards (s : State) (v : RingUnit) : (s.withRing v).cards = s.cards := rfl
@[simp] theorem State.withRing_plans (s : State) (v : RingUnit) : (s.withRing v).plans = s.plans := rfl
@[simp] theorem State.withRing_running (s : State) (v : RingUnit) : (s.withRing v).running = s.running := rfl
@[simp] theorem State.withRing_ring (s : State) (v : RingUnit) : (s.withRing v).ring = v := rfl
@[simp] theorem State.withRing_desk (s : State) (v : RingUnit) : (s.withRing v).desk = s.desk := rfl
@[simp] theorem State.withRing_arrivals (s : State) (v : RingUnit) : (s.withRing v).arrivals = s.arrivals := rfl
@[simp] theorem State.withRing_sweep (s : State) (v : RingUnit) : (s.withRing v).sweep = s.sweep := rfl
@[simp] theorem State.withRing_book (s : State) (v : RingUnit) : (s.withRing v).book = s.book := rfl
@[simp] theorem State.withRing_notices (s : State) (v : RingUnit) : (s.withRing v).notices = s.notices := rfl
@[simp] theorem State.withRing_days (s : State) (v : RingUnit) : (s.withRing v).days = s.days := rfl

@[simp] theorem State.withDesk_pending (s : State) (v : Desk) : (s.withDesk v).pending = s.pending := rfl
@[simp] theorem State.withDesk_power (s : State) (v : Desk) : (s.withDesk v).power = s.power := rfl
@[simp] theorem State.withDesk_link (s : State) (v : Desk) : (s.withDesk v).link = s.link := rfl
@[simp] theorem State.withDesk_params (s : State) (v : Desk) : (s.withDesk v).params = s.params := rfl
@[simp] theorem State.withDesk_clock (s : State) (v : Desk) : (s.withDesk v).clock = s.clock := rfl
@[simp] theorem State.withDesk_countUps (s : State) (v : Desk) : (s.withDesk v).countUps = s.countUps := rfl
@[simp] theorem State.withDesk_roll (s : State) (v : Desk) : (s.withDesk v).roll = s.roll := rfl
@[simp] theorem State.withDesk_cards (s : State) (v : Desk) : (s.withDesk v).cards = s.cards := rfl
@[simp] theorem State.withDesk_plans (s : State) (v : Desk) : (s.withDesk v).plans = s.plans := rfl
@[simp] theorem State.withDesk_running (s : State) (v : Desk) : (s.withDesk v).running = s.running := rfl
@[simp] theorem State.withDesk_ring (s : State) (v : Desk) : (s.withDesk v).ring = s.ring := rfl
@[simp] theorem State.withDesk_desk (s : State) (v : Desk) : (s.withDesk v).desk = v := rfl
@[simp] theorem State.withDesk_arrivals (s : State) (v : Desk) : (s.withDesk v).arrivals = s.arrivals := rfl
@[simp] theorem State.withDesk_sweep (s : State) (v : Desk) : (s.withDesk v).sweep = s.sweep := rfl
@[simp] theorem State.withDesk_book (s : State) (v : Desk) : (s.withDesk v).book = s.book := rfl
@[simp] theorem State.withDesk_notices (s : State) (v : Desk) : (s.withDesk v).notices = s.notices := rfl
@[simp] theorem State.withDesk_days (s : State) (v : Desk) : (s.withDesk v).days = s.days := rfl

@[simp] theorem State.withArrivals_pending (s : State) (v : Arrivals) : (s.withArrivals v).pending = s.pending := rfl
@[simp] theorem State.withArrivals_power (s : State) (v : Arrivals) : (s.withArrivals v).power = s.power := rfl
@[simp] theorem State.withArrivals_link (s : State) (v : Arrivals) : (s.withArrivals v).link = s.link := rfl
@[simp] theorem State.withArrivals_params (s : State) (v : Arrivals) : (s.withArrivals v).params = s.params := rfl
@[simp] theorem State.withArrivals_clock (s : State) (v : Arrivals) : (s.withArrivals v).clock = s.clock := rfl
@[simp] theorem State.withArrivals_countUps (s : State) (v : Arrivals) : (s.withArrivals v).countUps = s.countUps := rfl
@[simp] theorem State.withArrivals_roll (s : State) (v : Arrivals) : (s.withArrivals v).roll = s.roll := rfl
@[simp] theorem State.withArrivals_cards (s : State) (v : Arrivals) : (s.withArrivals v).cards = s.cards := rfl
@[simp] theorem State.withArrivals_plans (s : State) (v : Arrivals) : (s.withArrivals v).plans = s.plans := rfl
@[simp] theorem State.withArrivals_running (s : State) (v : Arrivals) : (s.withArrivals v).running = s.running := rfl
@[simp] theorem State.withArrivals_ring (s : State) (v : Arrivals) : (s.withArrivals v).ring = s.ring := rfl
@[simp] theorem State.withArrivals_desk (s : State) (v : Arrivals) : (s.withArrivals v).desk = s.desk := rfl
@[simp] theorem State.withArrivals_arrivals (s : State) (v : Arrivals) : (s.withArrivals v).arrivals = v := rfl
@[simp] theorem State.withArrivals_sweep (s : State) (v : Arrivals) : (s.withArrivals v).sweep = s.sweep := rfl
@[simp] theorem State.withArrivals_book (s : State) (v : Arrivals) : (s.withArrivals v).book = s.book := rfl
@[simp] theorem State.withArrivals_notices (s : State) (v : Arrivals) : (s.withArrivals v).notices = s.notices := rfl
@[simp] theorem State.withArrivals_days (s : State) (v : Arrivals) : (s.withArrivals v).days = s.days := rfl

@[simp] theorem State.withSweep_pending (s : State) (v : Sweep) : (s.withSweep v).pending = s.pending := rfl
@[simp] theorem State.withSweep_power (s : State) (v : Sweep) : (s.withSweep v).power = s.power := rfl
@[simp] theorem State.withSweep_link (s : State) (v : Sweep) : (s.withSweep v).link = s.link := rfl
@[simp] theorem State.withSweep_params (s : State) (v : Sweep) : (s.withSweep v).params = s.params := rfl
@[simp] theorem State.withSweep_clock (s : State) (v : Sweep) : (s.withSweep v).clock = s.clock := rfl
@[simp] theorem State.withSweep_countUps (s : State) (v : Sweep) : (s.withSweep v).countUps = s.countUps := rfl
@[simp] theorem State.withSweep_roll (s : State) (v : Sweep) : (s.withSweep v).roll = s.roll := rfl
@[simp] theorem State.withSweep_cards (s : State) (v : Sweep) : (s.withSweep v).cards = s.cards := rfl
@[simp] theorem State.withSweep_plans (s : State) (v : Sweep) : (s.withSweep v).plans = s.plans := rfl
@[simp] theorem State.withSweep_running (s : State) (v : Sweep) : (s.withSweep v).running = s.running := rfl
@[simp] theorem State.withSweep_ring (s : State) (v : Sweep) : (s.withSweep v).ring = s.ring := rfl
@[simp] theorem State.withSweep_desk (s : State) (v : Sweep) : (s.withSweep v).desk = s.desk := rfl
@[simp] theorem State.withSweep_arrivals (s : State) (v : Sweep) : (s.withSweep v).arrivals = s.arrivals := rfl
@[simp] theorem State.withSweep_sweep (s : State) (v : Sweep) : (s.withSweep v).sweep = v := rfl
@[simp] theorem State.withSweep_book (s : State) (v : Sweep) : (s.withSweep v).book = s.book := rfl
@[simp] theorem State.withSweep_notices (s : State) (v : Sweep) : (s.withSweep v).notices = s.notices := rfl
@[simp] theorem State.withSweep_days (s : State) (v : Sweep) : (s.withSweep v).days = s.days := rfl

@[simp] theorem State.withBook_pending (s : State) (v : List BookEntry) : (s.withBook v).pending = s.pending := rfl
@[simp] theorem State.withBook_power (s : State) (v : List BookEntry) : (s.withBook v).power = s.power := rfl
@[simp] theorem State.withBook_link (s : State) (v : List BookEntry) : (s.withBook v).link = s.link := rfl
@[simp] theorem State.withBook_params (s : State) (v : List BookEntry) : (s.withBook v).params = s.params := rfl
@[simp] theorem State.withBook_clock (s : State) (v : List BookEntry) : (s.withBook v).clock = s.clock := rfl
@[simp] theorem State.withBook_countUps (s : State) (v : List BookEntry) : (s.withBook v).countUps = s.countUps := rfl
@[simp] theorem State.withBook_roll (s : State) (v : List BookEntry) : (s.withBook v).roll = s.roll := rfl
@[simp] theorem State.withBook_cards (s : State) (v : List BookEntry) : (s.withBook v).cards = s.cards := rfl
@[simp] theorem State.withBook_plans (s : State) (v : List BookEntry) : (s.withBook v).plans = s.plans := rfl
@[simp] theorem State.withBook_running (s : State) (v : List BookEntry) : (s.withBook v).running = s.running := rfl
@[simp] theorem State.withBook_ring (s : State) (v : List BookEntry) : (s.withBook v).ring = s.ring := rfl
@[simp] theorem State.withBook_desk (s : State) (v : List BookEntry) : (s.withBook v).desk = s.desk := rfl
@[simp] theorem State.withBook_arrivals (s : State) (v : List BookEntry) : (s.withBook v).arrivals = s.arrivals := rfl
@[simp] theorem State.withBook_sweep (s : State) (v : List BookEntry) : (s.withBook v).sweep = s.sweep := rfl
@[simp] theorem State.withBook_book (s : State) (v : List BookEntry) : (s.withBook v).book = v := rfl
@[simp] theorem State.withBook_notices (s : State) (v : List BookEntry) : (s.withBook v).notices = s.notices := rfl
@[simp] theorem State.withBook_days (s : State) (v : List BookEntry) : (s.withBook v).days = s.days := rfl

@[simp] theorem State.withNotices_pending (s : State) (v : NoticeQueue) : (s.withNotices v).pending = s.pending := rfl
@[simp] theorem State.withNotices_power (s : State) (v : NoticeQueue) : (s.withNotices v).power = s.power := rfl
@[simp] theorem State.withNotices_link (s : State) (v : NoticeQueue) : (s.withNotices v).link = s.link := rfl
@[simp] theorem State.withNotices_params (s : State) (v : NoticeQueue) : (s.withNotices v).params = s.params := rfl
@[simp] theorem State.withNotices_clock (s : State) (v : NoticeQueue) : (s.withNotices v).clock = s.clock := rfl
@[simp] theorem State.withNotices_countUps (s : State) (v : NoticeQueue) : (s.withNotices v).countUps = s.countUps := rfl
@[simp] theorem State.withNotices_roll (s : State) (v : NoticeQueue) : (s.withNotices v).roll = s.roll := rfl
@[simp] theorem State.withNotices_cards (s : State) (v : NoticeQueue) : (s.withNotices v).cards = s.cards := rfl
@[simp] theorem State.withNotices_plans (s : State) (v : NoticeQueue) : (s.withNotices v).plans = s.plans := rfl
@[simp] theorem State.withNotices_running (s : State) (v : NoticeQueue) : (s.withNotices v).running = s.running := rfl
@[simp] theorem State.withNotices_ring (s : State) (v : NoticeQueue) : (s.withNotices v).ring = s.ring := rfl
@[simp] theorem State.withNotices_desk (s : State) (v : NoticeQueue) : (s.withNotices v).desk = s.desk := rfl
@[simp] theorem State.withNotices_arrivals (s : State) (v : NoticeQueue) : (s.withNotices v).arrivals = s.arrivals := rfl
@[simp] theorem State.withNotices_sweep (s : State) (v : NoticeQueue) : (s.withNotices v).sweep = s.sweep := rfl
@[simp] theorem State.withNotices_book (s : State) (v : NoticeQueue) : (s.withNotices v).book = s.book := rfl
@[simp] theorem State.withNotices_notices (s : State) (v : NoticeQueue) : (s.withNotices v).notices = v := rfl
@[simp] theorem State.withNotices_days (s : State) (v : NoticeQueue) : (s.withNotices v).days = s.days := rfl

@[simp] theorem State.withDays_pending (s : State) (v : Days) : (s.withDays v).pending = s.pending := rfl
@[simp] theorem State.withDays_power (s : State) (v : Days) : (s.withDays v).power = s.power := rfl
@[simp] theorem State.withDays_link (s : State) (v : Days) : (s.withDays v).link = s.link := rfl
@[simp] theorem State.withDays_params (s : State) (v : Days) : (s.withDays v).params = s.params := rfl
@[simp] theorem State.withDays_clock (s : State) (v : Days) : (s.withDays v).clock = s.clock := rfl
@[simp] theorem State.withDays_countUps (s : State) (v : Days) : (s.withDays v).countUps = s.countUps := rfl
@[simp] theorem State.withDays_roll (s : State) (v : Days) : (s.withDays v).roll = s.roll := rfl
@[simp] theorem State.withDays_cards (s : State) (v : Days) : (s.withDays v).cards = s.cards := rfl
@[simp] theorem State.withDays_plans (s : State) (v : Days) : (s.withDays v).plans = s.plans := rfl
@[simp] theorem State.withDays_running (s : State) (v : Days) : (s.withDays v).running = s.running := rfl
@[simp] theorem State.withDays_ring (s : State) (v : Days) : (s.withDays v).ring = s.ring := rfl
@[simp] theorem State.withDays_desk (s : State) (v : Days) : (s.withDays v).desk = s.desk := rfl
@[simp] theorem State.withDays_arrivals (s : State) (v : Days) : (s.withDays v).arrivals = s.arrivals := rfl
@[simp] theorem State.withDays_sweep (s : State) (v : Days) : (s.withDays v).sweep = s.sweep := rfl
@[simp] theorem State.withDays_book (s : State) (v : Days) : (s.withDays v).book = s.book := rfl
@[simp] theorem State.withDays_notices (s : State) (v : Days) : (s.withDays v).notices = s.notices := rfl
@[simp] theorem State.withDays_days (s : State) (v : Days) : (s.withDays v).days = v := rfl

end Sys2Proof.Machine
end

