-- ==== Sys2Proof/Laws/Steps.lean ====
section
/-! SUPPORT. What the taking of a request, the gate of an event and the gate of a link event can do, said once: each
theorem is an equation that a proof about a command cites in place of unfolding the gate. -/

namespace Sys2Proof.Machine

/-! ### A frame that ends (R184, R186, R195) -/

theorem takeFrame_ordinary {s : State} (h : s.takesFrames = true) (kind : Byte) (b : Bool) (serve : State → Served) :
    takeFrame kind b serve s =
      (serve s.frameEnds).1.reply { kind := kind, payload := (serve s.frameEnds).2, thenStart := b } := by
  simp only [State.takesFrames, Bool.and_eq_true, Bool.not_eq_true'] at h
  simp [takeFrame, h.1, h.2]

theorem takeFrame_overlapped {s : State} (hu : s.linkUp = true) (ho : s.link.overlaps = true) (kind : Byte) (b : Bool)
    (serve : State → Served) : takeFrame kind b serve s = s.countOverlapped := by
  simp [takeFrame, hu, ho]

theorem takeFrame_stopped {s : State} (h : s.linkUp = false) (kind : Byte) (b : Bool) (serve : State → Served) :
    takeFrame kind b serve s = s := by
  simp [takeFrame, h]

/-- A state that takes frames takes one after its receiver has gone back to HUNT: the frame's end hides nothing. -/
@[simp] theorem State.frameEnds_blocksRun (s : State) : s.frameEnds.blocksRun = s.blocksRun := rfl

@[simp] theorem State.frameEnds_rolling (s : State) : s.frameEnds.rolling = s.rolling := rfl

/-- A request whose block changes nothing: the state differs by its reply alone. -/
theorem request_answer {s : State} (h : s.takesFrames = true) {code : Byte} {serve : State → Served} {p : Bytes}
    (hs : serve s.frameEnds = answer s.frameEnds p) :
    request code serve s = .next (s.answered (code + 0x80#8) p) := by
  rw [request, takeFrame_ordinary h, hs]
  rfl

/-- A request whose block leaves a state `t`: the reply is put in hand there. -/
theorem request_served {s t : State} (h : s.takesFrames = true) {code : Byte} {serve : State → Served} {p : Bytes}
    (hs : serve s.frameEnds = (t, p)) :
    request code serve s = .next (t.reply { kind := code + 0x80#8, payload := p, thenStart := false }) := by
  rw [request, takeFrame_ordinary h, hs]

theorem request_overlapped {s : State} (hu : s.linkUp = true) (ho : s.link.overlaps = true) (code : Byte)
    (serve : State → Served) : request code serve s = .next s.countOverlapped := by
  rw [request, takeFrame_overlapped hu ho]

theorem request_stopped {s : State} (h : s.linkUp = false) (code : Byte) (serve : State → Served) :
    request code serve s = .next s := by
  rw [request, takeFrame_stopped h]

/-- Every request answers a next state. -/
theorem request_next (code : Byte) (serve : State → Served) (s : State) :
    request code serve s = .next (takeFrame (code + 0x80#8) false serve s) := rfl

/-! ### The gate of a rollover (R175) -/

theorem unlessRolling_busy {s : State} (h : s.rolling = true) (f : Served) : unlessRolling s f = answer s busyReply := by
  simp [unlessRolling, h, answer]

theorem unlessRolling_idle {s : State} (h : s.rolling = false) (f : Served) : unlessRolling s f = f := by
  simp [unlessRolling, h]

/-! ### The gates of events -/

theorem event_due {s : State} {due : State → Bool} (hb : s.blocksRun = true) (hd : due s = true) (act : State → State) :
    event due act s = .next (act s) := by
  simp [event, hb, hd]

theorem event_not_due {s : State} {due : State → Bool} (hd : due s = false) (act : State → State) :
    event due act s = .next s := by
  simp [event, hd]

theorem event_stopped {s : State} (hb : s.blocksRun = false) (due : State → Bool) (act : State → State) :
    event due act s = .next s := by
  simp [event, hb]

/-- What an event can leave: nothing changed, or its action on a state where the blocks run and it was due. -/
theorem event_cases {s t : State} {due : State → Bool} {act : State → State} (h : event due act s = .next t) :
    t = s ∨ (s.blocksRun = true ∧ due s = true ∧ t = act s) := by
  unfold event at h
  split at h
  · rename_i hc
    simp only [Bool.and_eq_true] at hc
    exact .inr ⟨hc.1, hc.2, (Host.Outcome.next.inj h).symm⟩
  · exact .inl (Host.Outcome.next.inj h).symm

theorem linkEvent_due {s : State} {due : State → Bool} (hl : s.linkUp = true) (hd : due s = true) (act : State → State) :
    linkEvent due act s = .next (act s) := by
  simp [linkEvent, hl, hd]

theorem linkEvent_stopped {s : State} (hl : s.linkUp = false) (due : State → Bool) (act : State → State) :
    linkEvent due act s = .next s := by
  simp [linkEvent, hl]

/-- What a request can leave: nothing changed, an overlapped frame counted, or the block's answer with its reply. -/
theorem request_cases {s t : State} {code : Byte} {serve : State → Served} (h : request code serve s = .next t) :
    (s.linkUp = false ∧ t = s) ∨ (s.linkUp = true ∧ s.link.overlaps = true ∧ t = s.countOverlapped) ∨
      (s.takesFrames = true ∧ t = (serve s.frameEnds).1.reply
        { kind := code + 0x80#8, payload := (serve s.frameEnds).2, thenStart := false }) := by
  have h' := (Host.Outcome.next.inj h).symm
  cases hu : s.linkUp with
  | false => exact .inl ⟨rfl, h'.trans (takeFrame_stopped hu _ _ _)⟩
  | true =>
    cases ho : s.link.overlaps with
    | true => exact .inr (.inl ⟨rfl, rfl, h'.trans (takeFrame_overlapped hu ho _ _ _)⟩)
    | false =>
      have ht : s.takesFrames = true := by simp [State.takesFrames, hu, ho]
      exact .inr (.inr ⟨ht, h'.trans (takeFrame_ordinary ht _ _ _)⟩)

end Sys2Proof.Machine
end

