-- ==== Sys2Proof/Laws/Touches.lean ====
section
/-! SUPPORT. What each shared operation leaves: for every operation and every field of State it does not write, the
field reads as before. A field it may write has no lemma here. -/

namespace Sys2Proof.Machine

/-! `State.raise`: only the pending classes of the link change -/

@[simp] theorem State.raise_pending (s : State) (c : EventClass) : (s.raise c).pending = s.pending := by
  rfl
@[simp] theorem State.raise_power (s : State) (c : EventClass) : (s.raise c).power = s.power := by
  rfl
@[simp] theorem State.raise_params (s : State) (c : EventClass) : (s.raise c).params = s.params := by
  rfl
@[simp] theorem State.raise_clock (s : State) (c : EventClass) : (s.raise c).clock = s.clock := by
  rfl
@[simp] theorem State.raise_countUps (s : State) (c : EventClass) : (s.raise c).countUps = s.countUps := by
  rfl
@[simp] theorem State.raise_roll (s : State) (c : EventClass) : (s.raise c).roll = s.roll := by
  rfl
@[simp] theorem State.raise_cards (s : State) (c : EventClass) : (s.raise c).cards = s.cards := by
  rfl
@[simp] theorem State.raise_plans (s : State) (c : EventClass) : (s.raise c).plans = s.plans := by
  rfl
@[simp] theorem State.raise_running (s : State) (c : EventClass) : (s.raise c).running = s.running := by
  rfl
@[simp] theorem State.raise_ring (s : State) (c : EventClass) : (s.raise c).ring = s.ring := by
  rfl
@[simp] theorem State.raise_desk (s : State) (c : EventClass) : (s.raise c).desk = s.desk := by
  rfl
@[simp] theorem State.raise_arrivals (s : State) (c : EventClass) : (s.raise c).arrivals = s.arrivals := by
  rfl
@[simp] theorem State.raise_sweep (s : State) (c : EventClass) : (s.raise c).sweep = s.sweep := by
  rfl
@[simp] theorem State.raise_book (s : State) (c : EventClass) : (s.raise c).book = s.book := by
  rfl
@[simp] theorem State.raise_notices (s : State) (c : EventClass) : (s.raise c).notices = s.notices := by
  rfl
@[simp] theorem State.raise_days (s : State) (c : EventClass) : (s.raise c).days = s.days := by
  rfl

/-! `State.frameEnds`: only the receiver changes -/

@[simp] theorem State.frameEnds_pending (s : State) : (s.frameEnds).pending = s.pending := by
  rfl
@[simp] theorem State.frameEnds_power (s : State) : (s.frameEnds).power = s.power := by
  rfl
@[simp] theorem State.frameEnds_params (s : State) : (s.frameEnds).params = s.params := by
  rfl
@[simp] theorem State.frameEnds_clock (s : State) : (s.frameEnds).clock = s.clock := by
  rfl
@[simp] theorem State.frameEnds_countUps (s : State) : (s.frameEnds).countUps = s.countUps := by
  rfl
@[simp] theorem State.frameEnds_roll (s : State) : (s.frameEnds).roll = s.roll := by
  rfl
@[simp] theorem State.frameEnds_cards (s : State) : (s.frameEnds).cards = s.cards := by
  rfl
@[simp] theorem State.frameEnds_plans (s : State) : (s.frameEnds).plans = s.plans := by
  rfl
@[simp] theorem State.frameEnds_running (s : State) : (s.frameEnds).running = s.running := by
  rfl
@[simp] theorem State.frameEnds_ring (s : State) : (s.frameEnds).ring = s.ring := by
  rfl
@[simp] theorem State.frameEnds_desk (s : State) : (s.frameEnds).desk = s.desk := by
  rfl
@[simp] theorem State.frameEnds_arrivals (s : State) : (s.frameEnds).arrivals = s.arrivals := by
  rfl
@[simp] theorem State.frameEnds_sweep (s : State) : (s.frameEnds).sweep = s.sweep := by
  rfl
@[simp] theorem State.frameEnds_book (s : State) : (s.frameEnds).book = s.book := by
  rfl
@[simp] theorem State.frameEnds_notices (s : State) : (s.frameEnds).notices = s.notices := by
  rfl
@[simp] theorem State.frameEnds_days (s : State) : (s.frameEnds).days = s.days := by
  rfl

/-! `State.reply`: only the reply in hand changes -/

@[simp] theorem State.reply_pending (s : State) (r : Reply) : (s.reply r).pending = s.pending := by
  rfl
@[simp] theorem State.reply_power (s : State) (r : Reply) : (s.reply r).power = s.power := by
  rfl
@[simp] theorem State.reply_params (s : State) (r : Reply) : (s.reply r).params = s.params := by
  rfl
@[simp] theorem State.reply_clock (s : State) (r : Reply) : (s.reply r).clock = s.clock := by
  rfl
@[simp] theorem State.reply_countUps (s : State) (r : Reply) : (s.reply r).countUps = s.countUps := by
  rfl
@[simp] theorem State.reply_roll (s : State) (r : Reply) : (s.reply r).roll = s.roll := by
  rfl
@[simp] theorem State.reply_cards (s : State) (r : Reply) : (s.reply r).cards = s.cards := by
  rfl
@[simp] theorem State.reply_plans (s : State) (r : Reply) : (s.reply r).plans = s.plans := by
  rfl
@[simp] theorem State.reply_running (s : State) (r : Reply) : (s.reply r).running = s.running := by
  rfl
@[simp] theorem State.reply_ring (s : State) (r : Reply) : (s.reply r).ring = s.ring := by
  rfl
@[simp] theorem State.reply_desk (s : State) (r : Reply) : (s.reply r).desk = s.desk := by
  rfl
@[simp] theorem State.reply_arrivals (s : State) (r : Reply) : (s.reply r).arrivals = s.arrivals := by
  rfl
@[simp] theorem State.reply_sweep (s : State) (r : Reply) : (s.reply r).sweep = s.sweep := by
  rfl
@[simp] theorem State.reply_book (s : State) (r : Reply) : (s.reply r).book = s.book := by
  rfl
@[simp] theorem State.reply_notices (s : State) (r : Reply) : (s.reply r).notices = s.notices := by
  rfl
@[simp] theorem State.reply_days (s : State) (r : Reply) : (s.reply r).days = s.days := by
  rfl

/-! `State.countOverlapped`: only the receiver and a counter change -/

@[simp] theorem State.countOverlapped_pending (s : State) : (s.countOverlapped).pending = s.pending := by
  rfl
@[simp] theorem State.countOverlapped_power (s : State) : (s.countOverlapped).power = s.power := by
  rfl
@[simp] theorem State.countOverlapped_params (s : State) : (s.countOverlapped).params = s.params := by
  rfl
@[simp] theorem State.countOverlapped_clock (s : State) : (s.countOverlapped).clock = s.clock := by
  rfl
@[simp] theorem State.countOverlapped_countUps (s : State) : (s.countOverlapped).countUps = s.countUps := by
  rfl
@[simp] theorem State.countOverlapped_roll (s : State) : (s.countOverlapped).roll = s.roll := by
  rfl
@[simp] theorem State.countOverlapped_cards (s : State) : (s.countOverlapped).cards = s.cards := by
  rfl
@[simp] theorem State.countOverlapped_plans (s : State) : (s.countOverlapped).plans = s.plans := by
  rfl
@[simp] theorem State.countOverlapped_running (s : State) : (s.countOverlapped).running = s.running := by
  rfl
@[simp] theorem State.countOverlapped_ring (s : State) : (s.countOverlapped).ring = s.ring := by
  rfl
@[simp] theorem State.countOverlapped_desk (s : State) : (s.countOverlapped).desk = s.desk := by
  rfl
@[simp] theorem State.countOverlapped_arrivals (s : State) : (s.countOverlapped).arrivals = s.arrivals := by
  rfl
@[simp] theorem State.countOverlapped_sweep (s : State) : (s.countOverlapped).sweep = s.sweep := by
  rfl
@[simp] theorem State.countOverlapped_book (s : State) : (s.countOverlapped).book = s.book := by
  rfl
@[simp] theorem State.countOverlapped_notices (s : State) : (s.countOverlapped).notices = s.notices := by
  rfl
@[simp] theorem State.countOverlapped_days (s : State) : (s.countOverlapped).days = s.days := by
  rfl

/-! `State.putPupil`: only the roll changes -/

@[simp] theorem State.putPupil_pending (s : State) (i : Nat) (p : Pupil) : (s.putPupil i p).pending = s.pending := by
  rfl
@[simp] theorem State.putPupil_power (s : State) (i : Nat) (p : Pupil) : (s.putPupil i p).power = s.power := by
  rfl
@[simp] theorem State.putPupil_link (s : State) (i : Nat) (p : Pupil) : (s.putPupil i p).link = s.link := by
  rfl
@[simp] theorem State.putPupil_params (s : State) (i : Nat) (p : Pupil) : (s.putPupil i p).params = s.params := by
  rfl
@[simp] theorem State.putPupil_clock (s : State) (i : Nat) (p : Pupil) : (s.putPupil i p).clock = s.clock := by
  rfl
@[simp] theorem State.putPupil_countUps (s : State) (i : Nat) (p : Pupil) : (s.putPupil i p).countUps = s.countUps := by
  rfl
@[simp] theorem State.putPupil_cards (s : State) (i : Nat) (p : Pupil) : (s.putPupil i p).cards = s.cards := by
  rfl
@[simp] theorem State.putPupil_plans (s : State) (i : Nat) (p : Pupil) : (s.putPupil i p).plans = s.plans := by
  rfl
@[simp] theorem State.putPupil_running (s : State) (i : Nat) (p : Pupil) : (s.putPupil i p).running = s.running := by
  rfl
@[simp] theorem State.putPupil_ring (s : State) (i : Nat) (p : Pupil) : (s.putPupil i p).ring = s.ring := by
  rfl
@[simp] theorem State.putPupil_desk (s : State) (i : Nat) (p : Pupil) : (s.putPupil i p).desk = s.desk := by
  rfl
@[simp] theorem State.putPupil_arrivals (s : State) (i : Nat) (p : Pupil) : (s.putPupil i p).arrivals = s.arrivals := by
  rfl
@[simp] theorem State.putPupil_sweep (s : State) (i : Nat) (p : Pupil) : (s.putPupil i p).sweep = s.sweep := by
  rfl
@[simp] theorem State.putPupil_book (s : State) (i : Nat) (p : Pupil) : (s.putPupil i p).book = s.book := by
  rfl
@[simp] theorem State.putPupil_notices (s : State) (i : Nat) (p : Pupil) : (s.putPupil i p).notices = s.notices := by
  rfl
@[simp] theorem State.putPupil_days (s : State) (i : Nat) (p : Pupil) : (s.putPupil i p).days = s.days := by
  rfl

/-! `State.withPlan`: only the running plans change -/

@[simp] theorem State.withPlan_pending (s : State) (t : Track) (r : RunningPlan) : (s.withPlan t r).pending = s.pending := by
  rfl
@[simp] theorem State.withPlan_power (s : State) (t : Track) (r : RunningPlan) : (s.withPlan t r).power = s.power := by
  rfl
@[simp] theorem State.withPlan_link (s : State) (t : Track) (r : RunningPlan) : (s.withPlan t r).link = s.link := by
  rfl
@[simp] theorem State.withPlan_params (s : State) (t : Track) (r : RunningPlan) : (s.withPlan t r).params = s.params := by
  rfl
@[simp] theorem State.withPlan_clock (s : State) (t : Track) (r : RunningPlan) : (s.withPlan t r).clock = s.clock := by
  rfl
@[simp] theorem State.withPlan_countUps (s : State) (t : Track) (r : RunningPlan) : (s.withPlan t r).countUps = s.countUps := by
  rfl
@[simp] theorem State.withPlan_roll (s : State) (t : Track) (r : RunningPlan) : (s.withPlan t r).roll = s.roll := by
  rfl
@[simp] theorem State.withPlan_cards (s : State) (t : Track) (r : RunningPlan) : (s.withPlan t r).cards = s.cards := by
  rfl
@[simp] theorem State.withPlan_plans (s : State) (t : Track) (r : RunningPlan) : (s.withPlan t r).plans = s.plans := by
  rfl
@[simp] theorem State.withPlan_ring (s : State) (t : Track) (r : RunningPlan) : (s.withPlan t r).ring = s.ring := by
  rfl
@[simp] theorem State.withPlan_desk (s : State) (t : Track) (r : RunningPlan) : (s.withPlan t r).desk = s.desk := by
  rfl
@[simp] theorem State.withPlan_arrivals (s : State) (t : Track) (r : RunningPlan) : (s.withPlan t r).arrivals = s.arrivals := by
  rfl
@[simp] theorem State.withPlan_sweep (s : State) (t : Track) (r : RunningPlan) : (s.withPlan t r).sweep = s.sweep := by
  rfl
@[simp] theorem State.withPlan_book (s : State) (t : Track) (r : RunningPlan) : (s.withPlan t r).book = s.book := by
  rfl
@[simp] theorem State.withPlan_notices (s : State) (t : Track) (r : RunningPlan) : (s.withPlan t r).notices = s.notices := by
  rfl
@[simp] theorem State.withPlan_days (s : State) (t : Track) (r : RunningPlan) : (s.withPlan t r).days = s.days := by
  rfl

/-! `State.taken`: only the notices and the pending classes change -/

@[simp] theorem State.taken_pending (s : State) (r : OfferResult) : (s.taken r).pending = s.pending := by
  unfold State.taken; (repeat' split) <;> simp
@[simp] theorem State.taken_power (s : State) (r : OfferResult) : (s.taken r).power = s.power := by
  unfold State.taken; (repeat' split) <;> simp
@[simp] theorem State.taken_params (s : State) (r : OfferResult) : (s.taken r).params = s.params := by
  unfold State.taken; (repeat' split) <;> simp
@[simp] theorem State.taken_clock (s : State) (r : OfferResult) : (s.taken r).clock = s.clock := by
  unfold State.taken; (repeat' split) <;> simp
@[simp] theorem State.taken_countUps (s : State) (r : OfferResult) : (s.taken r).countUps = s.countUps := by
  unfold State.taken; (repeat' split) <;> simp
@[simp] theorem State.taken_roll (s : State) (r : OfferResult) : (s.taken r).roll = s.roll := by
  unfold State.taken; (repeat' split) <;> simp
@[simp] theorem State.taken_cards (s : State) (r : OfferResult) : (s.taken r).cards = s.cards := by
  unfold State.taken; (repeat' split) <;> simp
@[simp] theorem State.taken_plans (s : State) (r : OfferResult) : (s.taken r).plans = s.plans := by
  unfold State.taken; (repeat' split) <;> simp
@[simp] theorem State.taken_running (s : State) (r : OfferResult) : (s.taken r).running = s.running := by
  unfold State.taken; (repeat' split) <;> simp
@[simp] theorem State.taken_ring (s : State) (r : OfferResult) : (s.taken r).ring = s.ring := by
  unfold State.taken; (repeat' split) <;> simp
@[simp] theorem State.taken_desk (s : State) (r : OfferResult) : (s.taken r).desk = s.desk := by
  unfold State.taken; (repeat' split) <;> simp
@[simp] theorem State.taken_arrivals (s : State) (r : OfferResult) : (s.taken r).arrivals = s.arrivals := by
  unfold State.taken; (repeat' split) <;> simp
@[simp] theorem State.taken_sweep (s : State) (r : OfferResult) : (s.taken r).sweep = s.sweep := by
  unfold State.taken; (repeat' split) <;> simp
@[simp] theorem State.taken_book (s : State) (r : OfferResult) : (s.taken r).book = s.book := by
  unfold State.taken; (repeat' split) <;> simp
@[simp] theorem State.taken_days (s : State) (r : OfferResult) : (s.taken r).days = s.days := by
  unfold State.taken; (repeat' split) <;> simp

/-! `State.offer`: only the notices and the pending classes change -/

@[simp] theorem State.offer_pending (s : State) (o : Offer) : (s.offer o).pending = s.pending := by
  simp [State.offer]
@[simp] theorem State.offer_power (s : State) (o : Offer) : (s.offer o).power = s.power := by
  simp [State.offer]
@[simp] theorem State.offer_params (s : State) (o : Offer) : (s.offer o).params = s.params := by
  simp [State.offer]
@[simp] theorem State.offer_clock (s : State) (o : Offer) : (s.offer o).clock = s.clock := by
  simp [State.offer]
@[simp] theorem State.offer_countUps (s : State) (o : Offer) : (s.offer o).countUps = s.countUps := by
  simp [State.offer]
@[simp] theorem State.offer_roll (s : State) (o : Offer) : (s.offer o).roll = s.roll := by
  simp [State.offer]
@[simp] theorem State.offer_cards (s : State) (o : Offer) : (s.offer o).cards = s.cards := by
  simp [State.offer]
@[simp] theorem State.offer_plans (s : State) (o : Offer) : (s.offer o).plans = s.plans := by
  simp [State.offer]
@[simp] theorem State.offer_running (s : State) (o : Offer) : (s.offer o).running = s.running := by
  simp [State.offer]
@[simp] theorem State.offer_ring (s : State) (o : Offer) : (s.offer o).ring = s.ring := by
  simp [State.offer]
@[simp] theorem State.offer_desk (s : State) (o : Offer) : (s.offer o).desk = s.desk := by
  simp [State.offer]
@[simp] theorem State.offer_arrivals (s : State) (o : Offer) : (s.offer o).arrivals = s.arrivals := by
  simp [State.offer]
@[simp] theorem State.offer_sweep (s : State) (o : Offer) : (s.offer o).sweep = s.sweep := by
  simp [State.offer]
@[simp] theorem State.offer_book (s : State) (o : Offer) : (s.offer o).book = s.book := by
  simp [State.offer]
@[simp] theorem State.offer_days (s : State) (o : Offer) : (s.offer o).days = s.days := by
  simp [State.offer]

/-! `State.withdraw`: only the notices change -/

@[simp] theorem State.withdraw_pending (s : State) (i : Nat) (k : Session) (a : Bool) : (s.withdraw i k a).pending = s.pending := by
  rfl
@[simp] theorem State.withdraw_power (s : State) (i : Nat) (k : Session) (a : Bool) : (s.withdraw i k a).power = s.power := by
  rfl
@[simp] theorem State.withdraw_link (s : State) (i : Nat) (k : Session) (a : Bool) : (s.withdraw i k a).link = s.link := by
  rfl
@[simp] theorem State.withdraw_params (s : State) (i : Nat) (k : Session) (a : Bool) : (s.withdraw i k a).params = s.params := by
  rfl
@[simp] theorem State.withdraw_clock (s : State) (i : Nat) (k : Session) (a : Bool) : (s.withdraw i k a).clock = s.clock := by
  rfl
@[simp] theorem State.withdraw_countUps (s : State) (i : Nat) (k : Session) (a : Bool) : (s.withdraw i k a).countUps = s.countUps := by
  rfl
@[simp] theorem State.withdraw_roll (s : State) (i : Nat) (k : Session) (a : Bool) : (s.withdraw i k a).roll = s.roll := by
  rfl
@[simp] theorem State.withdraw_cards (s : State) (i : Nat) (k : Session) (a : Bool) : (s.withdraw i k a).cards = s.cards := by
  rfl
@[simp] theorem State.withdraw_plans (s : State) (i : Nat) (k : Session) (a : Bool) : (s.withdraw i k a).plans = s.plans := by
  rfl
@[simp] theorem State.withdraw_running (s : State) (i : Nat) (k : Session) (a : Bool) : (s.withdraw i k a).running = s.running := by
  rfl
@[simp] theorem State.withdraw_ring (s : State) (i : Nat) (k : Session) (a : Bool) : (s.withdraw i k a).ring = s.ring := by
  rfl
@[simp] theorem State.withdraw_desk (s : State) (i : Nat) (k : Session) (a : Bool) : (s.withdraw i k a).desk = s.desk := by
  rfl
@[simp] theorem State.withdraw_arrivals (s : State) (i : Nat) (k : Session) (a : Bool) : (s.withdraw i k a).arrivals = s.arrivals := by
  rfl
@[simp] theorem State.withdraw_sweep (s : State) (i : Nat) (k : Session) (a : Bool) : (s.withdraw i k a).sweep = s.sweep := by
  rfl
@[simp] theorem State.withdraw_book (s : State) (i : Nat) (k : Session) (a : Bool) : (s.withdraw i k a).book = s.book := by
  rfl
@[simp] theorem State.withdraw_days (s : State) (i : Nat) (k : Session) (a : Bool) : (s.withdraw i k a).days = s.days := by
  rfl

/-! `State.withdrawIf`: only the notices change -/

@[simp] theorem State.withdrawIf_pending (s : State) (c : Bool) (i : Nat) (k : Session) : (s.withdrawIf c i k).pending = s.pending := by
  unfold State.withdrawIf; (repeat' split) <;> simp
@[simp] theorem State.withdrawIf_power (s : State) (c : Bool) (i : Nat) (k : Session) : (s.withdrawIf c i k).power = s.power := by
  unfold State.withdrawIf; (repeat' split) <;> simp
@[simp] theorem State.withdrawIf_link (s : State) (c : Bool) (i : Nat) (k : Session) : (s.withdrawIf c i k).link = s.link := by
  unfold State.withdrawIf; (repeat' split) <;> simp
@[simp] theorem State.withdrawIf_params (s : State) (c : Bool) (i : Nat) (k : Session) : (s.withdrawIf c i k).params = s.params := by
  unfold State.withdrawIf; (repeat' split) <;> simp
@[simp] theorem State.withdrawIf_clock (s : State) (c : Bool) (i : Nat) (k : Session) : (s.withdrawIf c i k).clock = s.clock := by
  unfold State.withdrawIf; (repeat' split) <;> simp
@[simp] theorem State.withdrawIf_countUps (s : State) (c : Bool) (i : Nat) (k : Session) : (s.withdrawIf c i k).countUps = s.countUps := by
  unfold State.withdrawIf; (repeat' split) <;> simp
@[simp] theorem State.withdrawIf_roll (s : State) (c : Bool) (i : Nat) (k : Session) : (s.withdrawIf c i k).roll = s.roll := by
  unfold State.withdrawIf; (repeat' split) <;> simp
@[simp] theorem State.withdrawIf_cards (s : State) (c : Bool) (i : Nat) (k : Session) : (s.withdrawIf c i k).cards = s.cards := by
  unfold State.withdrawIf; (repeat' split) <;> simp
@[simp] theorem State.withdrawIf_plans (s : State) (c : Bool) (i : Nat) (k : Session) : (s.withdrawIf c i k).plans = s.plans := by
  unfold State.withdrawIf; (repeat' split) <;> simp
@[simp] theorem State.withdrawIf_running (s : State) (c : Bool) (i : Nat) (k : Session) : (s.withdrawIf c i k).running = s.running := by
  unfold State.withdrawIf; (repeat' split) <;> simp
@[simp] theorem State.withdrawIf_ring (s : State) (c : Bool) (i : Nat) (k : Session) : (s.withdrawIf c i k).ring = s.ring := by
  unfold State.withdrawIf; (repeat' split) <;> simp
@[simp] theorem State.withdrawIf_desk (s : State) (c : Bool) (i : Nat) (k : Session) : (s.withdrawIf c i k).desk = s.desk := by
  unfold State.withdrawIf; (repeat' split) <;> simp
@[simp] theorem State.withdrawIf_arrivals (s : State) (c : Bool) (i : Nat) (k : Session) : (s.withdrawIf c i k).arrivals = s.arrivals := by
  unfold State.withdrawIf; (repeat' split) <;> simp
@[simp] theorem State.withdrawIf_sweep (s : State) (c : Bool) (i : Nat) (k : Session) : (s.withdrawIf c i k).sweep = s.sweep := by
  unfold State.withdrawIf; (repeat' split) <;> simp
@[simp] theorem State.withdrawIf_book (s : State) (c : Bool) (i : Nat) (k : Session) : (s.withdrawIf c i k).book = s.book := by
  unfold State.withdrawIf; (repeat' split) <;> simp
@[simp] theorem State.withdrawIf_days (s : State) (c : Bool) (i : Nat) (k : Session) : (s.withdrawIf c i k).days = s.days := by
  unfold State.withdrawIf; (repeat' split) <;> simp

/-! `State.patternOffer`: only the notices and the pending classes change -/

@[simp] theorem State.patternOffer_pending (s : State) (i : Nat) (p : Pupil) : (s.patternOffer i p).pending = s.pending := by
  unfold State.patternOffer; (repeat' split) <;> simp
@[simp] theorem State.patternOffer_power (s : State) (i : Nat) (p : Pupil) : (s.patternOffer i p).power = s.power := by
  unfold State.patternOffer; (repeat' split) <;> simp
@[simp] theorem State.patternOffer_params (s : State) (i : Nat) (p : Pupil) : (s.patternOffer i p).params = s.params := by
  unfold State.patternOffer; (repeat' split) <;> simp
@[simp] theorem State.patternOffer_clock (s : State) (i : Nat) (p : Pupil) : (s.patternOffer i p).clock = s.clock := by
  unfold State.patternOffer; (repeat' split) <;> simp
@[simp] theorem State.patternOffer_countUps (s : State) (i : Nat) (p : Pupil) : (s.patternOffer i p).countUps = s.countUps := by
  unfold State.patternOffer; (repeat' split) <;> simp
@[simp] theorem State.patternOffer_roll (s : State) (i : Nat) (p : Pupil) : (s.patternOffer i p).roll = s.roll := by
  unfold State.patternOffer; (repeat' split) <;> simp
@[simp] theorem State.patternOffer_cards (s : State) (i : Nat) (p : Pupil) : (s.patternOffer i p).cards = s.cards := by
  unfold State.patternOffer; (repeat' split) <;> simp
@[simp] theorem State.patternOffer_plans (s : State) (i : Nat) (p : Pupil) : (s.patternOffer i p).plans = s.plans := by
  unfold State.patternOffer; (repeat' split) <;> simp
@[simp] theorem State.patternOffer_running (s : State) (i : Nat) (p : Pupil) : (s.patternOffer i p).running = s.running := by
  unfold State.patternOffer; (repeat' split) <;> simp
@[simp] theorem State.patternOffer_ring (s : State) (i : Nat) (p : Pupil) : (s.patternOffer i p).ring = s.ring := by
  unfold State.patternOffer; (repeat' split) <;> simp
@[simp] theorem State.patternOffer_desk (s : State) (i : Nat) (p : Pupil) : (s.patternOffer i p).desk = s.desk := by
  unfold State.patternOffer; (repeat' split) <;> simp
@[simp] theorem State.patternOffer_arrivals (s : State) (i : Nat) (p : Pupil) : (s.patternOffer i p).arrivals = s.arrivals := by
  unfold State.patternOffer; (repeat' split) <;> simp
@[simp] theorem State.patternOffer_sweep (s : State) (i : Nat) (p : Pupil) : (s.patternOffer i p).sweep = s.sweep := by
  unfold State.patternOffer; (repeat' split) <;> simp
@[simp] theorem State.patternOffer_book (s : State) (i : Nat) (p : Pupil) : (s.patternOffer i p).book = s.book := by
  unfold State.patternOffer; (repeat' split) <;> simp
@[simp] theorem State.patternOffer_days (s : State) (i : Nat) (p : Pupil) : (s.patternOffer i p).days = s.days := by
  unfold State.patternOffer; (repeat' split) <;> simp

/-! `State.arrivedOffer`: only the notices and the pending classes change -/

@[simp] theorem State.arrivedOffer_pending (s : State) (i : Nat) (p : Pupil) (k : Session) : (s.arrivedOffer i p k).pending = s.pending := by
  unfold State.arrivedOffer; (repeat' split) <;> simp
@[simp] theorem State.arrivedOffer_power (s : State) (i : Nat) (p : Pupil) (k : Session) : (s.arrivedOffer i p k).power = s.power := by
  unfold State.arrivedOffer; (repeat' split) <;> simp
@[simp] theorem State.arrivedOffer_params (s : State) (i : Nat) (p : Pupil) (k : Session) : (s.arrivedOffer i p k).params = s.params := by
  unfold State.arrivedOffer; (repeat' split) <;> simp
@[simp] theorem State.arrivedOffer_clock (s : State) (i : Nat) (p : Pupil) (k : Session) : (s.arrivedOffer i p k).clock = s.clock := by
  unfold State.arrivedOffer; (repeat' split) <;> simp
@[simp] theorem State.arrivedOffer_countUps (s : State) (i : Nat) (p : Pupil) (k : Session) : (s.arrivedOffer i p k).countUps = s.countUps := by
  unfold State.arrivedOffer; (repeat' split) <;> simp
@[simp] theorem State.arrivedOffer_roll (s : State) (i : Nat) (p : Pupil) (k : Session) : (s.arrivedOffer i p k).roll = s.roll := by
  unfold State.arrivedOffer; (repeat' split) <;> simp
@[simp] theorem State.arrivedOffer_cards (s : State) (i : Nat) (p : Pupil) (k : Session) : (s.arrivedOffer i p k).cards = s.cards := by
  unfold State.arrivedOffer; (repeat' split) <;> simp
@[simp] theorem State.arrivedOffer_plans (s : State) (i : Nat) (p : Pupil) (k : Session) : (s.arrivedOffer i p k).plans = s.plans := by
  unfold State.arrivedOffer; (repeat' split) <;> simp
@[simp] theorem State.arrivedOffer_running (s : State) (i : Nat) (p : Pupil) (k : Session) : (s.arrivedOffer i p k).running = s.running := by
  unfold State.arrivedOffer; (repeat' split) <;> simp
@[simp] theorem State.arrivedOffer_ring (s : State) (i : Nat) (p : Pupil) (k : Session) : (s.arrivedOffer i p k).ring = s.ring := by
  unfold State.arrivedOffer; (repeat' split) <;> simp
@[simp] theorem State.arrivedOffer_desk (s : State) (i : Nat) (p : Pupil) (k : Session) : (s.arrivedOffer i p k).desk = s.desk := by
  unfold State.arrivedOffer; (repeat' split) <;> simp
@[simp] theorem State.arrivedOffer_arrivals (s : State) (i : Nat) (p : Pupil) (k : Session) : (s.arrivedOffer i p k).arrivals = s.arrivals := by
  unfold State.arrivedOffer; (repeat' split) <;> simp
@[simp] theorem State.arrivedOffer_sweep (s : State) (i : Nat) (p : Pupil) (k : Session) : (s.arrivedOffer i p k).sweep = s.sweep := by
  unfold State.arrivedOffer; (repeat' split) <;> simp
@[simp] theorem State.arrivedOffer_book (s : State) (i : Nat) (p : Pupil) (k : Session) : (s.arrivedOffer i p k).book = s.book := by
  unfold State.arrivedOffer; (repeat' split) <;> simp
@[simp] theorem State.arrivedOffer_days (s : State) (i : Nat) (p : Pupil) (k : Session) : (s.arrivedOffer i p k).days = s.days := by
  unfold State.arrivedOffer; (repeat' split) <;> simp

/-! `State.replaceMark`: only the roll, the notices and the pending classes change -/

@[simp] theorem State.replaceMark_pending (s : State) (i : Nat) (p : Pupil) (k : Session) (w : MarkWrite) : (s.replaceMark i p k w).pending = s.pending := by
  unfold State.replaceMark; dsimp only; (repeat' split) <;> simp
@[simp] theorem State.replaceMark_power (s : State) (i : Nat) (p : Pupil) (k : Session) (w : MarkWrite) : (s.replaceMark i p k w).power = s.power := by
  unfold State.replaceMark; dsimp only; (repeat' split) <;> simp
@[simp] theorem State.replaceMark_params (s : State) (i : Nat) (p : Pupil) (k : Session) (w : MarkWrite) : (s.replaceMark i p k w).params = s.params := by
  unfold State.replaceMark; dsimp only; (repeat' split) <;> simp
@[simp] theorem State.replaceMark_clock (s : State) (i : Nat) (p : Pupil) (k : Session) (w : MarkWrite) : (s.replaceMark i p k w).clock = s.clock := by
  unfold State.replaceMark; dsimp only; (repeat' split) <;> simp
@[simp] theorem State.replaceMark_countUps (s : State) (i : Nat) (p : Pupil) (k : Session) (w : MarkWrite) : (s.replaceMark i p k w).countUps = s.countUps := by
  unfold State.replaceMark; dsimp only; (repeat' split) <;> simp
@[simp] theorem State.replaceMark_cards (s : State) (i : Nat) (p : Pupil) (k : Session) (w : MarkWrite) : (s.replaceMark i p k w).cards = s.cards := by
  unfold State.replaceMark; dsimp only; (repeat' split) <;> simp
@[simp] theorem State.replaceMark_plans (s : State) (i : Nat) (p : Pupil) (k : Session) (w : MarkWrite) : (s.replaceMark i p k w).plans = s.plans := by
  unfold State.replaceMark; dsimp only; (repeat' split) <;> simp
@[simp] theorem State.replaceMark_running (s : State) (i : Nat) (p : Pupil) (k : Session) (w : MarkWrite) : (s.replaceMark i p k w).running = s.running := by
  unfold State.replaceMark; dsimp only; (repeat' split) <;> simp
@[simp] theorem State.replaceMark_ring (s : State) (i : Nat) (p : Pupil) (k : Session) (w : MarkWrite) : (s.replaceMark i p k w).ring = s.ring := by
  unfold State.replaceMark; dsimp only; (repeat' split) <;> simp
@[simp] theorem State.replaceMark_desk (s : State) (i : Nat) (p : Pupil) (k : Session) (w : MarkWrite) : (s.replaceMark i p k w).desk = s.desk := by
  unfold State.replaceMark; dsimp only; (repeat' split) <;> simp
@[simp] theorem State.replaceMark_arrivals (s : State) (i : Nat) (p : Pupil) (k : Session) (w : MarkWrite) : (s.replaceMark i p k w).arrivals = s.arrivals := by
  unfold State.replaceMark; dsimp only; (repeat' split) <;> simp
@[simp] theorem State.replaceMark_sweep (s : State) (i : Nat) (p : Pupil) (k : Session) (w : MarkWrite) : (s.replaceMark i p k w).sweep = s.sweep := by
  unfold State.replaceMark; dsimp only; (repeat' split) <;> simp
@[simp] theorem State.replaceMark_book (s : State) (i : Nat) (p : Pupil) (k : Session) (w : MarkWrite) : (s.replaceMark i p k w).book = s.book := by
  unfold State.replaceMark; dsimp only; (repeat' split) <;> simp
@[simp] theorem State.replaceMark_days (s : State) (i : Nat) (p : Pupil) (k : Session) (w : MarkWrite) : (s.replaceMark i p k w).days = s.days := by
  unfold State.replaceMark; dsimp only; (repeat' split) <;> simp

/-! `State.tapChange`: only the roll, the notices and the pending classes change -/

@[simp] theorem State.tapChange_pending (s : State) (i : Nat) (p : Pupil) (k : Session) (v : MarkValue) (m : Nat) (x : Bool) : (s.tapChange i p k v m x).pending = s.pending := by
  unfold State.tapChange; (repeat' split) <;> simp
@[simp] theorem State.tapChange_power (s : State) (i : Nat) (p : Pupil) (k : Session) (v : MarkValue) (m : Nat) (x : Bool) : (s.tapChange i p k v m x).power = s.power := by
  unfold State.tapChange; (repeat' split) <;> simp
@[simp] theorem State.tapChange_params (s : State) (i : Nat) (p : Pupil) (k : Session) (v : MarkValue) (m : Nat) (x : Bool) : (s.tapChange i p k v m x).params = s.params := by
  unfold State.tapChange; (repeat' split) <;> simp
@[simp] theorem State.tapChange_clock (s : State) (i : Nat) (p : Pupil) (k : Session) (v : MarkValue) (m : Nat) (x : Bool) : (s.tapChange i p k v m x).clock = s.clock := by
  unfold State.tapChange; (repeat' split) <;> simp
@[simp] theorem State.tapChange_countUps (s : State) (i : Nat) (p : Pupil) (k : Session) (v : MarkValue) (m : Nat) (x : Bool) : (s.tapChange i p k v m x).countUps = s.countUps := by
  unfold State.tapChange; (repeat' split) <;> simp
@[simp] theorem State.tapChange_cards (s : State) (i : Nat) (p : Pupil) (k : Session) (v : MarkValue) (m : Nat) (x : Bool) : (s.tapChange i p k v m x).cards = s.cards := by
  unfold State.tapChange; (repeat' split) <;> simp
@[simp] theorem State.tapChange_plans (s : State) (i : Nat) (p : Pupil) (k : Session) (v : MarkValue) (m : Nat) (x : Bool) : (s.tapChange i p k v m x).plans = s.plans := by
  unfold State.tapChange; (repeat' split) <;> simp
@[simp] theorem State.tapChange_running (s : State) (i : Nat) (p : Pupil) (k : Session) (v : MarkValue) (m : Nat) (x : Bool) : (s.tapChange i p k v m x).running = s.running := by
  unfold State.tapChange; (repeat' split) <;> simp
@[simp] theorem State.tapChange_ring (s : State) (i : Nat) (p : Pupil) (k : Session) (v : MarkValue) (m : Nat) (x : Bool) : (s.tapChange i p k v m x).ring = s.ring := by
  unfold State.tapChange; (repeat' split) <;> simp
@[simp] theorem State.tapChange_desk (s : State) (i : Nat) (p : Pupil) (k : Session) (v : MarkValue) (m : Nat) (x : Bool) : (s.tapChange i p k v m x).desk = s.desk := by
  unfold State.tapChange; (repeat' split) <;> simp
@[simp] theorem State.tapChange_arrivals (s : State) (i : Nat) (p : Pupil) (k : Session) (v : MarkValue) (m : Nat) (x : Bool) : (s.tapChange i p k v m x).arrivals = s.arrivals := by
  unfold State.tapChange; (repeat' split) <;> simp
@[simp] theorem State.tapChange_sweep (s : State) (i : Nat) (p : Pupil) (k : Session) (v : MarkValue) (m : Nat) (x : Bool) : (s.tapChange i p k v m x).sweep = s.sweep := by
  unfold State.tapChange; (repeat' split) <;> simp
@[simp] theorem State.tapChange_book (s : State) (i : Nat) (p : Pupil) (k : Session) (v : MarkValue) (m : Nat) (x : Bool) : (s.tapChange i p k v m x).book = s.book := by
  unfold State.tapChange; (repeat' split) <;> simp
@[simp] theorem State.tapChange_days (s : State) (i : Nat) (p : Pupil) (k : Session) (v : MarkValue) (m : Nat) (x : Bool) : (s.tapChange i p k v m x).days = s.days := by
  unfold State.tapChange; (repeat' split) <;> simp

/-! `State.tapReturn`: only the roll, the notices and the pending classes change -/

@[simp] theorem State.tapReturn_pending (s : State) (i : Nat) (p : Pupil) (k : Session) : (s.tapReturn i p k).pending = s.pending := by
  unfold State.tapReturn; (repeat' split) <;> simp
@[simp] theorem State.tapReturn_power (s : State) (i : Nat) (p : Pupil) (k : Session) : (s.tapReturn i p k).power = s.power := by
  unfold State.tapReturn; (repeat' split) <;> simp
@[simp] theorem State.tapReturn_params (s : State) (i : Nat) (p : Pupil) (k : Session) : (s.tapReturn i p k).params = s.params := by
  unfold State.tapReturn; (repeat' split) <;> simp
@[simp] theorem State.tapReturn_clock (s : State) (i : Nat) (p : Pupil) (k : Session) : (s.tapReturn i p k).clock = s.clock := by
  unfold State.tapReturn; (repeat' split) <;> simp
@[simp] theorem State.tapReturn_countUps (s : State) (i : Nat) (p : Pupil) (k : Session) : (s.tapReturn i p k).countUps = s.countUps := by
  unfold State.tapReturn; (repeat' split) <;> simp
@[simp] theorem State.tapReturn_cards (s : State) (i : Nat) (p : Pupil) (k : Session) : (s.tapReturn i p k).cards = s.cards := by
  unfold State.tapReturn; (repeat' split) <;> simp
@[simp] theorem State.tapReturn_plans (s : State) (i : Nat) (p : Pupil) (k : Session) : (s.tapReturn i p k).plans = s.plans := by
  unfold State.tapReturn; (repeat' split) <;> simp
@[simp] theorem State.tapReturn_running (s : State) (i : Nat) (p : Pupil) (k : Session) : (s.tapReturn i p k).running = s.running := by
  unfold State.tapReturn; (repeat' split) <;> simp
@[simp] theorem State.tapReturn_ring (s : State) (i : Nat) (p : Pupil) (k : Session) : (s.tapReturn i p k).ring = s.ring := by
  unfold State.tapReturn; (repeat' split) <;> simp
@[simp] theorem State.tapReturn_desk (s : State) (i : Nat) (p : Pupil) (k : Session) : (s.tapReturn i p k).desk = s.desk := by
  unfold State.tapReturn; (repeat' split) <;> simp
@[simp] theorem State.tapReturn_arrivals (s : State) (i : Nat) (p : Pupil) (k : Session) : (s.tapReturn i p k).arrivals = s.arrivals := by
  unfold State.tapReturn; (repeat' split) <;> simp
@[simp] theorem State.tapReturn_sweep (s : State) (i : Nat) (p : Pupil) (k : Session) : (s.tapReturn i p k).sweep = s.sweep := by
  unfold State.tapReturn; (repeat' split) <;> simp
@[simp] theorem State.tapReturn_book (s : State) (i : Nat) (p : Pupil) (k : Session) : (s.tapReturn i p k).book = s.book := by
  unfold State.tapReturn; (repeat' split) <;> simp
@[simp] theorem State.tapReturn_days (s : State) (i : Nat) (p : Pupil) (k : Session) : (s.tapReturn i p k).days = s.days := by
  unfold State.tapReturn; (repeat' split) <;> simp

/-! `State.sweepChange`: only the roll, the notices and the pending classes change -/

@[simp] theorem State.sweepChange_pending (s : State) (i : Nat) (p : Pupil) (k : Session) (r : Option Reason) : (s.sweepChange i p k r).pending = s.pending := by
  unfold State.sweepChange; (repeat' split) <;> simp
@[simp] theorem State.sweepChange_power (s : State) (i : Nat) (p : Pupil) (k : Session) (r : Option Reason) : (s.sweepChange i p k r).power = s.power := by
  unfold State.sweepChange; (repeat' split) <;> simp
@[simp] theorem State.sweepChange_params (s : State) (i : Nat) (p : Pupil) (k : Session) (r : Option Reason) : (s.sweepChange i p k r).params = s.params := by
  unfold State.sweepChange; (repeat' split) <;> simp
@[simp] theorem State.sweepChange_clock (s : State) (i : Nat) (p : Pupil) (k : Session) (r : Option Reason) : (s.sweepChange i p k r).clock = s.clock := by
  unfold State.sweepChange; (repeat' split) <;> simp
@[simp] theorem State.sweepChange_countUps (s : State) (i : Nat) (p : Pupil) (k : Session) (r : Option Reason) : (s.sweepChange i p k r).countUps = s.countUps := by
  unfold State.sweepChange; (repeat' split) <;> simp
@[simp] theorem State.sweepChange_cards (s : State) (i : Nat) (p : Pupil) (k : Session) (r : Option Reason) : (s.sweepChange i p k r).cards = s.cards := by
  unfold State.sweepChange; (repeat' split) <;> simp
@[simp] theorem State.sweepChange_plans (s : State) (i : Nat) (p : Pupil) (k : Session) (r : Option Reason) : (s.sweepChange i p k r).plans = s.plans := by
  unfold State.sweepChange; (repeat' split) <;> simp
@[simp] theorem State.sweepChange_running (s : State) (i : Nat) (p : Pupil) (k : Session) (r : Option Reason) : (s.sweepChange i p k r).running = s.running := by
  unfold State.sweepChange; (repeat' split) <;> simp
@[simp] theorem State.sweepChange_ring (s : State) (i : Nat) (p : Pupil) (k : Session) (r : Option Reason) : (s.sweepChange i p k r).ring = s.ring := by
  unfold State.sweepChange; (repeat' split) <;> simp
@[simp] theorem State.sweepChange_desk (s : State) (i : Nat) (p : Pupil) (k : Session) (r : Option Reason) : (s.sweepChange i p k r).desk = s.desk := by
  unfold State.sweepChange; (repeat' split) <;> simp
@[simp] theorem State.sweepChange_arrivals (s : State) (i : Nat) (p : Pupil) (k : Session) (r : Option Reason) : (s.sweepChange i p k r).arrivals = s.arrivals := by
  unfold State.sweepChange; (repeat' split) <;> simp
@[simp] theorem State.sweepChange_sweep (s : State) (i : Nat) (p : Pupil) (k : Session) (r : Option Reason) : (s.sweepChange i p k r).sweep = s.sweep := by
  unfold State.sweepChange; (repeat' split) <;> simp
@[simp] theorem State.sweepChange_book (s : State) (i : Nat) (p : Pupil) (k : Session) (r : Option Reason) : (s.sweepChange i p k r).book = s.book := by
  unfold State.sweepChange; (repeat' split) <;> simp
@[simp] theorem State.sweepChange_days (s : State) (i : Nat) (p : Pupil) (k : Session) (r : Option Reason) : (s.sweepChange i p k r).days = s.days := by
  unfold State.sweepChange; (repeat' split) <;> simp

/-! `State.reportChange`: only the roll, the notices and the pending classes change -/

@[simp] theorem State.reportChange_pending (s : State) (i : Nat) (k : Session) (r : Reason) : (s.reportChange i k r).pending = s.pending := by
  unfold State.reportChange; (repeat' split) <;> simp
@[simp] theorem State.reportChange_power (s : State) (i : Nat) (k : Session) (r : Reason) : (s.reportChange i k r).power = s.power := by
  unfold State.reportChange; (repeat' split) <;> simp
@[simp] theorem State.reportChange_params (s : State) (i : Nat) (k : Session) (r : Reason) : (s.reportChange i k r).params = s.params := by
  unfold State.reportChange; (repeat' split) <;> simp
@[simp] theorem State.reportChange_clock (s : State) (i : Nat) (k : Session) (r : Reason) : (s.reportChange i k r).clock = s.clock := by
  unfold State.reportChange; (repeat' split) <;> simp
@[simp] theorem State.reportChange_countUps (s : State) (i : Nat) (k : Session) (r : Reason) : (s.reportChange i k r).countUps = s.countUps := by
  unfold State.reportChange; (repeat' split) <;> simp
@[simp] theorem State.reportChange_cards (s : State) (i : Nat) (k : Session) (r : Reason) : (s.reportChange i k r).cards = s.cards := by
  unfold State.reportChange; (repeat' split) <;> simp
@[simp] theorem State.reportChange_plans (s : State) (i : Nat) (k : Session) (r : Reason) : (s.reportChange i k r).plans = s.plans := by
  unfold State.reportChange; (repeat' split) <;> simp
@[simp] theorem State.reportChange_running (s : State) (i : Nat) (k : Session) (r : Reason) : (s.reportChange i k r).running = s.running := by
  unfold State.reportChange; (repeat' split) <;> simp
@[simp] theorem State.reportChange_ring (s : State) (i : Nat) (k : Session) (r : Reason) : (s.reportChange i k r).ring = s.ring := by
  unfold State.reportChange; (repeat' split) <;> simp
@[simp] theorem State.reportChange_desk (s : State) (i : Nat) (k : Session) (r : Reason) : (s.reportChange i k r).desk = s.desk := by
  unfold State.reportChange; (repeat' split) <;> simp
@[simp] theorem State.reportChange_arrivals (s : State) (i : Nat) (k : Session) (r : Reason) : (s.reportChange i k r).arrivals = s.arrivals := by
  unfold State.reportChange; (repeat' split) <;> simp
@[simp] theorem State.reportChange_sweep (s : State) (i : Nat) (k : Session) (r : Reason) : (s.reportChange i k r).sweep = s.sweep := by
  unfold State.reportChange; (repeat' split) <;> simp
@[simp] theorem State.reportChange_book (s : State) (i : Nat) (k : Session) (r : Reason) : (s.reportChange i k r).book = s.book := by
  unfold State.reportChange; (repeat' split) <;> simp
@[simp] theorem State.reportChange_days (s : State) (i : Nat) (k : Session) (r : Reason) : (s.reportChange i k r).days = s.days := by
  unfold State.reportChange; (repeat' split) <;> simp

/-! `State.recard`: only the card index changes -/

@[simp] theorem State.recard_pending (s : State) (i o n : Nat) : (s.recard i o n).pending = s.pending := by
  rfl
@[simp] theorem State.recard_power (s : State) (i o n : Nat) : (s.recard i o n).power = s.power := by
  rfl
@[simp] theorem State.recard_link (s : State) (i o n : Nat) : (s.recard i o n).link = s.link := by
  rfl
@[simp] theorem State.recard_params (s : State) (i o n : Nat) : (s.recard i o n).params = s.params := by
  rfl
@[simp] theorem State.recard_clock (s : State) (i o n : Nat) : (s.recard i o n).clock = s.clock := by
  rfl
@[simp] theorem State.recard_countUps (s : State) (i o n : Nat) : (s.recard i o n).countUps = s.countUps := by
  rfl
@[simp] theorem State.recard_roll (s : State) (i o n : Nat) : (s.recard i o n).roll = s.roll := by
  rfl
@[simp] theorem State.recard_plans (s : State) (i o n : Nat) : (s.recard i o n).plans = s.plans := by
  rfl
@[simp] theorem State.recard_running (s : State) (i o n : Nat) : (s.recard i o n).running = s.running := by
  rfl
@[simp] theorem State.recard_ring (s : State) (i o n : Nat) : (s.recard i o n).ring = s.ring := by
  rfl
@[simp] theorem State.recard_desk (s : State) (i o n : Nat) : (s.recard i o n).desk = s.desk := by
  rfl
@[simp] theorem State.recard_arrivals (s : State) (i o n : Nat) : (s.recard i o n).arrivals = s.arrivals := by
  rfl
@[simp] theorem State.recard_sweep (s : State) (i o n : Nat) : (s.recard i o n).sweep = s.sweep := by
  rfl
@[simp] theorem State.recard_book (s : State) (i o n : Nat) : (s.recard i o n).book = s.book := by
  rfl
@[simp] theorem State.recard_notices (s : State) (i o n : Nat) : (s.recard i o n).notices = s.notices := by
  rfl
@[simp] theorem State.recard_days (s : State) (i o n : Nat) : (s.recard i o n).days = s.days := by
  rfl

/-! `State.changeTrack`: only the roll and the notices change -/

@[simp] theorem State.changeTrack_pending (s : State) (i : Nat) (p : Pupil) (t : Track) : (s.changeTrack i p t).pending = s.pending := by
  simp [State.changeTrack]
@[simp] theorem State.changeTrack_power (s : State) (i : Nat) (p : Pupil) (t : Track) : (s.changeTrack i p t).power = s.power := by
  simp [State.changeTrack]
@[simp] theorem State.changeTrack_link (s : State) (i : Nat) (p : Pupil) (t : Track) : (s.changeTrack i p t).link = s.link := by
  simp [State.changeTrack]
@[simp] theorem State.changeTrack_params (s : State) (i : Nat) (p : Pupil) (t : Track) : (s.changeTrack i p t).params = s.params := by
  simp [State.changeTrack]
@[simp] theorem State.changeTrack_clock (s : State) (i : Nat) (p : Pupil) (t : Track) : (s.changeTrack i p t).clock = s.clock := by
  simp [State.changeTrack]
@[simp] theorem State.changeTrack_countUps (s : State) (i : Nat) (p : Pupil) (t : Track) : (s.changeTrack i p t).countUps = s.countUps := by
  simp [State.changeTrack]
@[simp] theorem State.changeTrack_cards (s : State) (i : Nat) (p : Pupil) (t : Track) : (s.changeTrack i p t).cards = s.cards := by
  simp [State.changeTrack]
@[simp] theorem State.changeTrack_plans (s : State) (i : Nat) (p : Pupil) (t : Track) : (s.changeTrack i p t).plans = s.plans := by
  simp [State.changeTrack]
@[simp] theorem State.changeTrack_running (s : State) (i : Nat) (p : Pupil) (t : Track) : (s.changeTrack i p t).running = s.running := by
  simp [State.changeTrack]
@[simp] theorem State.changeTrack_ring (s : State) (i : Nat) (p : Pupil) (t : Track) : (s.changeTrack i p t).ring = s.ring := by
  simp [State.changeTrack]
@[simp] theorem State.changeTrack_desk (s : State) (i : Nat) (p : Pupil) (t : Track) : (s.changeTrack i p t).desk = s.desk := by
  simp [State.changeTrack]
@[simp] theorem State.changeTrack_arrivals (s : State) (i : Nat) (p : Pupil) (t : Track) : (s.changeTrack i p t).arrivals = s.arrivals := by
  simp [State.changeTrack]
@[simp] theorem State.changeTrack_sweep (s : State) (i : Nat) (p : Pupil) (t : Track) : (s.changeTrack i p t).sweep = s.sweep := by
  simp [State.changeTrack]
@[simp] theorem State.changeTrack_book (s : State) (i : Nat) (p : Pupil) (t : Track) : (s.changeTrack i p t).book = s.book := by
  simp [State.changeTrack]
@[simp] theorem State.changeTrack_days (s : State) (i : Nat) (p : Pupil) (t : Track) : (s.changeTrack i p t).days = s.days := by
  simp [State.changeTrack]

/-! `State.writeRecord`: only the roll, the card index and the notices change -/

@[simp] theorem State.writeRecord_pending (s : State) (i : Nat) (r : RollRecord) : (s.writeRecord i r).pending = s.pending := by
  unfold State.writeRecord; (repeat' split) <;> simp
@[simp] theorem State.writeRecord_power (s : State) (i : Nat) (r : RollRecord) : (s.writeRecord i r).power = s.power := by
  unfold State.writeRecord; (repeat' split) <;> simp
@[simp] theorem State.writeRecord_link (s : State) (i : Nat) (r : RollRecord) : (s.writeRecord i r).link = s.link := by
  unfold State.writeRecord; (repeat' split) <;> simp
@[simp] theorem State.writeRecord_params (s : State) (i : Nat) (r : RollRecord) : (s.writeRecord i r).params = s.params := by
  unfold State.writeRecord; (repeat' split) <;> simp
@[simp] theorem State.writeRecord_clock (s : State) (i : Nat) (r : RollRecord) : (s.writeRecord i r).clock = s.clock := by
  unfold State.writeRecord; (repeat' split) <;> simp
@[simp] theorem State.writeRecord_countUps (s : State) (i : Nat) (r : RollRecord) : (s.writeRecord i r).countUps = s.countUps := by
  unfold State.writeRecord; (repeat' split) <;> simp
@[simp] theorem State.writeRecord_plans (s : State) (i : Nat) (r : RollRecord) : (s.writeRecord i r).plans = s.plans := by
  unfold State.writeRecord; (repeat' split) <;> simp
@[simp] theorem State.writeRecord_running (s : State) (i : Nat) (r : RollRecord) : (s.writeRecord i r).running = s.running := by
  unfold State.writeRecord; (repeat' split) <;> simp
@[simp] theorem State.writeRecord_ring (s : State) (i : Nat) (r : RollRecord) : (s.writeRecord i r).ring = s.ring := by
  unfold State.writeRecord; (repeat' split) <;> simp
@[simp] theorem State.writeRecord_desk (s : State) (i : Nat) (r : RollRecord) : (s.writeRecord i r).desk = s.desk := by
  unfold State.writeRecord; (repeat' split) <;> simp
@[simp] theorem State.writeRecord_arrivals (s : State) (i : Nat) (r : RollRecord) : (s.writeRecord i r).arrivals = s.arrivals := by
  unfold State.writeRecord; (repeat' split) <;> simp
@[simp] theorem State.writeRecord_sweep (s : State) (i : Nat) (r : RollRecord) : (s.writeRecord i r).sweep = s.sweep := by
  unfold State.writeRecord; (repeat' split) <;> simp
@[simp] theorem State.writeRecord_book (s : State) (i : Nat) (r : RollRecord) : (s.writeRecord i r).book = s.book := by
  unfold State.writeRecord; (repeat' split) <;> simp
@[simp] theorem State.writeRecord_days (s : State) (i : Nat) (r : RollRecord) : (s.writeRecord i r).days = s.days := by
  unfold State.writeRecord; (repeat' split) <;> simp

/-! `State.removePupil`: the roll, the card index, the book, the off-site list and the notices change -/

@[simp] theorem State.removePupil_pending (s : State) (i : Nat) (p : Pupil) : (s.removePupil i p).pending = s.pending := by
  rfl
@[simp] theorem State.removePupil_power (s : State) (i : Nat) (p : Pupil) : (s.removePupil i p).power = s.power := by
  rfl
@[simp] theorem State.removePupil_link (s : State) (i : Nat) (p : Pupil) : (s.removePupil i p).link = s.link := by
  rfl
@[simp] theorem State.removePupil_params (s : State) (i : Nat) (p : Pupil) : (s.removePupil i p).params = s.params := by
  rfl
@[simp] theorem State.removePupil_clock (s : State) (i : Nat) (p : Pupil) : (s.removePupil i p).clock = s.clock := by
  rfl
@[simp] theorem State.removePupil_countUps (s : State) (i : Nat) (p : Pupil) : (s.removePupil i p).countUps = s.countUps := by
  rfl
@[simp] theorem State.removePupil_plans (s : State) (i : Nat) (p : Pupil) : (s.removePupil i p).plans = s.plans := by
  rfl
@[simp] theorem State.removePupil_running (s : State) (i : Nat) (p : Pupil) : (s.removePupil i p).running = s.running := by
  rfl
@[simp] theorem State.removePupil_ring (s : State) (i : Nat) (p : Pupil) : (s.removePupil i p).ring = s.ring := by
  rfl
@[simp] theorem State.removePupil_desk (s : State) (i : Nat) (p : Pupil) : (s.removePupil i p).desk = s.desk := by
  rfl
@[simp] theorem State.removePupil_sweep (s : State) (i : Nat) (p : Pupil) : (s.removePupil i p).sweep = s.sweep := by
  rfl
@[simp] theorem State.removePupil_days (s : State) (i : Nat) (p : Pupil) : (s.removePupil i p).days = s.days := by
  rfl

/-! `State.termClear`: only the roll changes -/

@[simp] theorem State.termClear_pending (s : State) : (s.termClear).pending = s.pending := by
  rfl
@[simp] theorem State.termClear_power (s : State) : (s.termClear).power = s.power := by
  rfl
@[simp] theorem State.termClear_link (s : State) : (s.termClear).link = s.link := by
  rfl
@[simp] theorem State.termClear_params (s : State) : (s.termClear).params = s.params := by
  rfl
@[simp] theorem State.termClear_clock (s : State) : (s.termClear).clock = s.clock := by
  rfl
@[simp] theorem State.termClear_countUps (s : State) : (s.termClear).countUps = s.countUps := by
  rfl
@[simp] theorem State.termClear_cards (s : State) : (s.termClear).cards = s.cards := by
  rfl
@[simp] theorem State.termClear_plans (s : State) : (s.termClear).plans = s.plans := by
  rfl
@[simp] theorem State.termClear_running (s : State) : (s.termClear).running = s.running := by
  rfl
@[simp] theorem State.termClear_ring (s : State) : (s.termClear).ring = s.ring := by
  rfl
@[simp] theorem State.termClear_desk (s : State) : (s.termClear).desk = s.desk := by
  rfl
@[simp] theorem State.termClear_arrivals (s : State) : (s.termClear).arrivals = s.arrivals := by
  rfl
@[simp] theorem State.termClear_sweep (s : State) : (s.termClear).sweep = s.sweep := by
  rfl
@[simp] theorem State.termClear_book (s : State) : (s.termClear).book = s.book := by
  rfl
@[simp] theorem State.termClear_notices (s : State) : (s.termClear).notices = s.notices := by
  rfl
@[simp] theorem State.termClear_days (s : State) : (s.termClear).days = s.days := by
  rfl

/-! `State.setDelivered`: only the roll changes -/

@[simp] theorem State.setDelivered_pending (s : State) (i d : Nat) (k : Session) : (s.setDelivered i d k).pending = s.pending := by
  unfold State.setDelivered; (repeat' split) <;> simp
@[simp] theorem State.setDelivered_power (s : State) (i d : Nat) (k : Session) : (s.setDelivered i d k).power = s.power := by
  unfold State.setDelivered; (repeat' split) <;> simp
@[simp] theorem State.setDelivered_link (s : State) (i d : Nat) (k : Session) : (s.setDelivered i d k).link = s.link := by
  unfold State.setDelivered; (repeat' split) <;> simp
@[simp] theorem State.setDelivered_params (s : State) (i d : Nat) (k : Session) : (s.setDelivered i d k).params = s.params := by
  unfold State.setDelivered; (repeat' split) <;> simp
@[simp] theorem State.setDelivered_clock (s : State) (i d : Nat) (k : Session) : (s.setDelivered i d k).clock = s.clock := by
  unfold State.setDelivered; (repeat' split) <;> simp
@[simp] theorem State.setDelivered_countUps (s : State) (i d : Nat) (k : Session) : (s.setDelivered i d k).countUps = s.countUps := by
  unfold State.setDelivered; (repeat' split) <;> simp
@[simp] theorem State.setDelivered_cards (s : State) (i d : Nat) (k : Session) : (s.setDelivered i d k).cards = s.cards := by
  unfold State.setDelivered; (repeat' split) <;> simp
@[simp] theorem State.setDelivered_plans (s : State) (i d : Nat) (k : Session) : (s.setDelivered i d k).plans = s.plans := by
  unfold State.setDelivered; (repeat' split) <;> simp
@[simp] theorem State.setDelivered_running (s : State) (i d : Nat) (k : Session) : (s.setDelivered i d k).running = s.running := by
  unfold State.setDelivered; (repeat' split) <;> simp
@[simp] theorem State.setDelivered_ring (s : State) (i d : Nat) (k : Session) : (s.setDelivered i d k).ring = s.ring := by
  unfold State.setDelivered; (repeat' split) <;> simp
@[simp] theorem State.setDelivered_desk (s : State) (i d : Nat) (k : Session) : (s.setDelivered i d k).desk = s.desk := by
  unfold State.setDelivered; (repeat' split) <;> simp
@[simp] theorem State.setDelivered_arrivals (s : State) (i d : Nat) (k : Session) : (s.setDelivered i d k).arrivals = s.arrivals := by
  unfold State.setDelivered; (repeat' split) <;> simp
@[simp] theorem State.setDelivered_sweep (s : State) (i d : Nat) (k : Session) : (s.setDelivered i d k).sweep = s.sweep := by
  unfold State.setDelivered; (repeat' split) <;> simp
@[simp] theorem State.setDelivered_book (s : State) (i d : Nat) (k : Session) : (s.setDelivered i d k).book = s.book := by
  unfold State.setDelivered; (repeat' split) <;> simp
@[simp] theorem State.setDelivered_notices (s : State) (i d : Nat) (k : Session) : (s.setDelivered i d k).notices = s.notices := by
  unfold State.setDelivered; (repeat' split) <;> simp
@[simp] theorem State.setDelivered_days (s : State) (i d : Nat) (k : Session) : (s.setDelivered i d k).days = s.days := by
  unfold State.setDelivered; (repeat' split) <;> simp

/-! `State.flagBook`: only the book changes -/

@[simp] theorem State.flagBook_pending (s : State) (i d : Nat) (u c : Bool) : (s.flagBook i d u c).pending = s.pending := by
  rfl
@[simp] theorem State.flagBook_power (s : State) (i d : Nat) (u c : Bool) : (s.flagBook i d u c).power = s.power := by
  rfl
@[simp] theorem State.flagBook_link (s : State) (i d : Nat) (u c : Bool) : (s.flagBook i d u c).link = s.link := by
  rfl
@[simp] theorem State.flagBook_params (s : State) (i d : Nat) (u c : Bool) : (s.flagBook i d u c).params = s.params := by
  rfl
@[simp] theorem State.flagBook_clock (s : State) (i d : Nat) (u c : Bool) : (s.flagBook i d u c).clock = s.clock := by
  rfl
@[simp] theorem State.flagBook_countUps (s : State) (i d : Nat) (u c : Bool) : (s.flagBook i d u c).countUps = s.countUps := by
  rfl
@[simp] theorem State.flagBook_roll (s : State) (i d : Nat) (u c : Bool) : (s.flagBook i d u c).roll = s.roll := by
  rfl
@[simp] theorem State.flagBook_cards (s : State) (i d : Nat) (u c : Bool) : (s.flagBook i d u c).cards = s.cards := by
  rfl
@[simp] theorem State.flagBook_plans (s : State) (i d : Nat) (u c : Bool) : (s.flagBook i d u c).plans = s.plans := by
  rfl
@[simp] theorem State.flagBook_running (s : State) (i d : Nat) (u c : Bool) : (s.flagBook i d u c).running = s.running := by
  rfl
@[simp] theorem State.flagBook_ring (s : State) (i d : Nat) (u c : Bool) : (s.flagBook i d u c).ring = s.ring := by
  rfl
@[simp] theorem State.flagBook_desk (s : State) (i d : Nat) (u c : Bool) : (s.flagBook i d u c).desk = s.desk := by
  rfl
@[simp] theorem State.flagBook_arrivals (s : State) (i d : Nat) (u c : Bool) : (s.flagBook i d u c).arrivals = s.arrivals := by
  rfl
@[simp] theorem State.flagBook_sweep (s : State) (i d : Nat) (u c : Bool) : (s.flagBook i d u c).sweep = s.sweep := by
  rfl
@[simp] theorem State.flagBook_notices (s : State) (i d : Nat) (u c : Bool) : (s.flagBook i d u c).notices = s.notices := by
  rfl
@[simp] theorem State.flagBook_days (s : State) (i d : Nat) (u c : Bool) : (s.flagBook i d u c).days = s.days := by
  rfl

/-! `State.storeEntry`: only the book changes -/

@[simp] theorem State.storeEntry_pending (s : State) (e : BookEntry) : (s.storeEntry e).pending = s.pending := by
  rfl
@[simp] theorem State.storeEntry_power (s : State) (e : BookEntry) : (s.storeEntry e).power = s.power := by
  rfl
@[simp] theorem State.storeEntry_link (s : State) (e : BookEntry) : (s.storeEntry e).link = s.link := by
  rfl
@[simp] theorem State.storeEntry_params (s : State) (e : BookEntry) : (s.storeEntry e).params = s.params := by
  rfl
@[simp] theorem State.storeEntry_clock (s : State) (e : BookEntry) : (s.storeEntry e).clock = s.clock := by
  rfl
@[simp] theorem State.storeEntry_countUps (s : State) (e : BookEntry) : (s.storeEntry e).countUps = s.countUps := by
  rfl
@[simp] theorem State.storeEntry_roll (s : State) (e : BookEntry) : (s.storeEntry e).roll = s.roll := by
  rfl
@[simp] theorem State.storeEntry_cards (s : State) (e : BookEntry) : (s.storeEntry e).cards = s.cards := by
  rfl
@[simp] theorem State.storeEntry_plans (s : State) (e : BookEntry) : (s.storeEntry e).plans = s.plans := by
  rfl
@[simp] theorem State.storeEntry_running (s : State) (e : BookEntry) : (s.storeEntry e).running = s.running := by
  rfl
@[simp] theorem State.storeEntry_ring (s : State) (e : BookEntry) : (s.storeEntry e).ring = s.ring := by
  rfl
@[simp] theorem State.storeEntry_desk (s : State) (e : BookEntry) : (s.storeEntry e).desk = s.desk := by
  rfl
@[simp] theorem State.storeEntry_arrivals (s : State) (e : BookEntry) : (s.storeEntry e).arrivals = s.arrivals := by
  rfl
@[simp] theorem State.storeEntry_sweep (s : State) (e : BookEntry) : (s.storeEntry e).sweep = s.sweep := by
  rfl
@[simp] theorem State.storeEntry_notices (s : State) (e : BookEntry) : (s.storeEntry e).notices = s.notices := by
  rfl
@[simp] theorem State.storeEntry_days (s : State) (e : BookEntry) : (s.storeEntry e).days = s.days := by
  rfl

/-! `State.applyReport`: the book, the roll, the notices and the pending classes change -/

@[simp] theorem State.applyReport_pending (s : State) (e : BookEntry) (k : Session) : (s.applyReport e k).pending = s.pending := by
  unfold State.applyReport; (repeat' split) <;> simp
@[simp] theorem State.applyReport_power (s : State) (e : BookEntry) (k : Session) : (s.applyReport e k).power = s.power := by
  unfold State.applyReport; (repeat' split) <;> simp
@[simp] theorem State.applyReport_params (s : State) (e : BookEntry) (k : Session) : (s.applyReport e k).params = s.params := by
  unfold State.applyReport; (repeat' split) <;> simp
@[simp] theorem State.applyReport_clock (s : State) (e : BookEntry) (k : Session) : (s.applyReport e k).clock = s.clock := by
  unfold State.applyReport; (repeat' split) <;> simp
@[simp] theorem State.applyReport_countUps (s : State) (e : BookEntry) (k : Session) : (s.applyReport e k).countUps = s.countUps := by
  unfold State.applyReport; (repeat' split) <;> simp
@[simp] theorem State.applyReport_cards (s : State) (e : BookEntry) (k : Session) : (s.applyReport e k).cards = s.cards := by
  unfold State.applyReport; (repeat' split) <;> simp
@[simp] theorem State.applyReport_plans (s : State) (e : BookEntry) (k : Session) : (s.applyReport e k).plans = s.plans := by
  unfold State.applyReport; (repeat' split) <;> simp
@[simp] theorem State.applyReport_running (s : State) (e : BookEntry) (k : Session) : (s.applyReport e k).running = s.running := by
  unfold State.applyReport; (repeat' split) <;> simp
@[simp] theorem State.applyReport_ring (s : State) (e : BookEntry) (k : Session) : (s.applyReport e k).ring = s.ring := by
  unfold State.applyReport; (repeat' split) <;> simp
@[simp] theorem State.applyReport_desk (s : State) (e : BookEntry) (k : Session) : (s.applyReport e k).desk = s.desk := by
  unfold State.applyReport; (repeat' split) <;> simp
@[simp] theorem State.applyReport_arrivals (s : State) (e : BookEntry) (k : Session) : (s.applyReport e k).arrivals = s.arrivals := by
  unfold State.applyReport; (repeat' split) <;> simp
@[simp] theorem State.applyReport_sweep (s : State) (e : BookEntry) (k : Session) : (s.applyReport e k).sweep = s.sweep := by
  unfold State.applyReport; (repeat' split) <;> simp
@[simp] theorem State.applyReport_days (s : State) (e : BookEntry) (k : Session) : (s.applyReport e k).days = s.days := by
  unfold State.applyReport; (repeat' split) <;> simp

/-! `State.addReport`: the book, the roll, the notices and the pending classes change -/

@[simp] theorem State.addReport_pending (s : State) (e : BookEntry) : (s.addReport e).pending = s.pending := by
  simp [State.addReport]
@[simp] theorem State.addReport_power (s : State) (e : BookEntry) : (s.addReport e).power = s.power := by
  simp [State.addReport]
@[simp] theorem State.addReport_params (s : State) (e : BookEntry) : (s.addReport e).params = s.params := by
  simp [State.addReport]
@[simp] theorem State.addReport_clock (s : State) (e : BookEntry) : (s.addReport e).clock = s.clock := by
  simp [State.addReport]
@[simp] theorem State.addReport_countUps (s : State) (e : BookEntry) : (s.addReport e).countUps = s.countUps := by
  simp [State.addReport]
@[simp] theorem State.addReport_cards (s : State) (e : BookEntry) : (s.addReport e).cards = s.cards := by
  simp [State.addReport]
@[simp] theorem State.addReport_plans (s : State) (e : BookEntry) : (s.addReport e).plans = s.plans := by
  simp [State.addReport]
@[simp] theorem State.addReport_running (s : State) (e : BookEntry) : (s.addReport e).running = s.running := by
  simp [State.addReport]
@[simp] theorem State.addReport_ring (s : State) (e : BookEntry) : (s.addReport e).ring = s.ring := by
  simp [State.addReport]
@[simp] theorem State.addReport_desk (s : State) (e : BookEntry) : (s.addReport e).desk = s.desk := by
  simp [State.addReport]
@[simp] theorem State.addReport_arrivals (s : State) (e : BookEntry) : (s.addReport e).arrivals = s.arrivals := by
  simp [State.addReport]
@[simp] theorem State.addReport_sweep (s : State) (e : BookEntry) : (s.addReport e).sweep = s.sweep := by
  simp [State.addReport]
@[simp] theorem State.addReport_days (s : State) (e : BookEntry) : (s.addReport e).days = s.days := by
  simp [State.addReport]

/-! `State.degrade`: only the rings and the pending classes change -/

@[simp] theorem State.degrade_pending (s : State) (j : Job) : (s.degrade j).pending = s.pending := by
  rfl
@[simp] theorem State.degrade_power (s : State) (j : Job) : (s.degrade j).power = s.power := by
  rfl
@[simp] theorem State.degrade_params (s : State) (j : Job) : (s.degrade j).params = s.params := by
  rfl
@[simp] theorem State.degrade_clock (s : State) (j : Job) : (s.degrade j).clock = s.clock := by
  rfl
@[simp] theorem State.degrade_countUps (s : State) (j : Job) : (s.degrade j).countUps = s.countUps := by
  rfl
@[simp] theorem State.degrade_roll (s : State) (j : Job) : (s.degrade j).roll = s.roll := by
  rfl
@[simp] theorem State.degrade_cards (s : State) (j : Job) : (s.degrade j).cards = s.cards := by
  rfl
@[simp] theorem State.degrade_plans (s : State) (j : Job) : (s.degrade j).plans = s.plans := by
  rfl
@[simp] theorem State.degrade_running (s : State) (j : Job) : (s.degrade j).running = s.running := by
  rfl
@[simp] theorem State.degrade_desk (s : State) (j : Job) : (s.degrade j).desk = s.desk := by
  rfl
@[simp] theorem State.degrade_arrivals (s : State) (j : Job) : (s.degrade j).arrivals = s.arrivals := by
  rfl
@[simp] theorem State.degrade_sweep (s : State) (j : Job) : (s.degrade j).sweep = s.sweep := by
  rfl
@[simp] theorem State.degrade_book (s : State) (j : Job) : (s.degrade j).book = s.book := by
  rfl
@[simp] theorem State.degrade_notices (s : State) (j : Job) : (s.degrade j).notices = s.notices := by
  rfl
@[simp] theorem State.degrade_days (s : State) (j : Job) : (s.degrade j).days = s.days := by
  rfl

/-! `State.ringRequest`: only the rings and the pending classes change -/

@[simp] theorem State.ringRequest_pending (s : State) (z : BitVec 8) (n : Fin 16) (o : Origin) : (s.ringRequest z n o).pending = s.pending := by
  unfold State.ringRequest; dsimp only; (repeat' split) <;> simp
@[simp] theorem State.ringRequest_power (s : State) (z : BitVec 8) (n : Fin 16) (o : Origin) : (s.ringRequest z n o).power = s.power := by
  unfold State.ringRequest; dsimp only; (repeat' split) <;> simp
@[simp] theorem State.ringRequest_params (s : State) (z : BitVec 8) (n : Fin 16) (o : Origin) : (s.ringRequest z n o).params = s.params := by
  unfold State.ringRequest; dsimp only; (repeat' split) <;> simp
@[simp] theorem State.ringRequest_clock (s : State) (z : BitVec 8) (n : Fin 16) (o : Origin) : (s.ringRequest z n o).clock = s.clock := by
  unfold State.ringRequest; dsimp only; (repeat' split) <;> simp
@[simp] theorem State.ringRequest_countUps (s : State) (z : BitVec 8) (n : Fin 16) (o : Origin) : (s.ringRequest z n o).countUps = s.countUps := by
  unfold State.ringRequest; dsimp only; (repeat' split) <;> simp
@[simp] theorem State.ringRequest_roll (s : State) (z : BitVec 8) (n : Fin 16) (o : Origin) : (s.ringRequest z n o).roll = s.roll := by
  unfold State.ringRequest; dsimp only; (repeat' split) <;> simp
@[simp] theorem State.ringRequest_cards (s : State) (z : BitVec 8) (n : Fin 16) (o : Origin) : (s.ringRequest z n o).cards = s.cards := by
  unfold State.ringRequest; dsimp only; (repeat' split) <;> simp
@[simp] theorem State.ringRequest_plans (s : State) (z : BitVec 8) (n : Fin 16) (o : Origin) : (s.ringRequest z n o).plans = s.plans := by
  unfold State.ringRequest; dsimp only; (repeat' split) <;> simp
@[simp] theorem State.ringRequest_running (s : State) (z : BitVec 8) (n : Fin 16) (o : Origin) : (s.ringRequest z n o).running = s.running := by
  unfold State.ringRequest; dsimp only; (repeat' split) <;> simp
@[simp] theorem State.ringRequest_desk (s : State) (z : BitVec 8) (n : Fin 16) (o : Origin) : (s.ringRequest z n o).desk = s.desk := by
  unfold State.ringRequest; dsimp only; (repeat' split) <;> simp
@[simp] theorem State.ringRequest_arrivals (s : State) (z : BitVec 8) (n : Fin 16) (o : Origin) : (s.ringRequest z n o).arrivals = s.arrivals := by
  unfold State.ringRequest; dsimp only; (repeat' split) <;> simp
@[simp] theorem State.ringRequest_sweep (s : State) (z : BitVec 8) (n : Fin 16) (o : Origin) : (s.ringRequest z n o).sweep = s.sweep := by
  unfold State.ringRequest; dsimp only; (repeat' split) <;> simp
@[simp] theorem State.ringRequest_book (s : State) (z : BitVec 8) (n : Fin 16) (o : Origin) : (s.ringRequest z n o).book = s.book := by
  unfold State.ringRequest; dsimp only; (repeat' split) <;> simp
@[simp] theorem State.ringRequest_notices (s : State) (z : BitVec 8) (n : Fin 16) (o : Origin) : (s.ringRequest z n o).notices = s.notices := by
  unfold State.ringRequest; dsimp only; (repeat' split) <;> simp
@[simp] theorem State.ringRequest_days (s : State) (z : BitVec 8) (n : Fin 16) (o : Origin) : (s.ringRequest z n o).days = s.days := by
  unfold State.ringRequest; dsimp only; (repeat' split) <;> simp

/-! `State.putTerminal`: only the desk line changes -/

@[simp] theorem State.putTerminal_pending (s : State) (t : Fin 4) (v : Terminal) : (s.putTerminal t v).pending = s.pending := by
  rfl
@[simp] theorem State.putTerminal_power (s : State) (t : Fin 4) (v : Terminal) : (s.putTerminal t v).power = s.power := by
  rfl
@[simp] theorem State.putTerminal_link (s : State) (t : Fin 4) (v : Terminal) : (s.putTerminal t v).link = s.link := by
  rfl
@[simp] theorem State.putTerminal_params (s : State) (t : Fin 4) (v : Terminal) : (s.putTerminal t v).params = s.params := by
  rfl
@[simp] theorem State.putTerminal_clock (s : State) (t : Fin 4) (v : Terminal) : (s.putTerminal t v).clock = s.clock := by
  rfl
@[simp] theorem State.putTerminal_countUps (s : State) (t : Fin 4) (v : Terminal) : (s.putTerminal t v).countUps = s.countUps := by
  rfl
@[simp] theorem State.putTerminal_roll (s : State) (t : Fin 4) (v : Terminal) : (s.putTerminal t v).roll = s.roll := by
  rfl
@[simp] theorem State.putTerminal_cards (s : State) (t : Fin 4) (v : Terminal) : (s.putTerminal t v).cards = s.cards := by
  rfl
@[simp] theorem State.putTerminal_plans (s : State) (t : Fin 4) (v : Terminal) : (s.putTerminal t v).plans = s.plans := by
  rfl
@[simp] theorem State.putTerminal_running (s : State) (t : Fin 4) (v : Terminal) : (s.putTerminal t v).running = s.running := by
  rfl
@[simp] theorem State.putTerminal_ring (s : State) (t : Fin 4) (v : Terminal) : (s.putTerminal t v).ring = s.ring := by
  rfl
@[simp] theorem State.putTerminal_arrivals (s : State) (t : Fin 4) (v : Terminal) : (s.putTerminal t v).arrivals = s.arrivals := by
  rfl
@[simp] theorem State.putTerminal_sweep (s : State) (t : Fin 4) (v : Terminal) : (s.putTerminal t v).sweep = s.sweep := by
  rfl
@[simp] theorem State.putTerminal_book (s : State) (t : Fin 4) (v : Terminal) : (s.putTerminal t v).book = s.book := by
  rfl
@[simp] theorem State.putTerminal_notices (s : State) (t : Fin 4) (v : Terminal) : (s.putTerminal t v).notices = s.notices := by
  rfl
@[simp] theorem State.putTerminal_days (s : State) (t : Fin 4) (v : Terminal) : (s.putTerminal t v).days = s.days := by
  rfl

/-! `State.setLine`: only the desk line changes -/

@[simp] theorem State.setLine_pending (s : State) (l : DeskLine) : (s.setLine l).pending = s.pending := by
  rfl
@[simp] theorem State.setLine_power (s : State) (l : DeskLine) : (s.setLine l).power = s.power := by
  rfl
@[simp] theorem State.setLine_link (s : State) (l : DeskLine) : (s.setLine l).link = s.link := by
  rfl
@[simp] theorem State.setLine_params (s : State) (l : DeskLine) : (s.setLine l).params = s.params := by
  rfl
@[simp] theorem State.setLine_clock (s : State) (l : DeskLine) : (s.setLine l).clock = s.clock := by
  rfl
@[simp] theorem State.setLine_countUps (s : State) (l : DeskLine) : (s.setLine l).countUps = s.countUps := by
  rfl
@[simp] theorem State.setLine_roll (s : State) (l : DeskLine) : (s.setLine l).roll = s.roll := by
  rfl
@[simp] theorem State.setLine_cards (s : State) (l : DeskLine) : (s.setLine l).cards = s.cards := by
  rfl
@[simp] theorem State.setLine_plans (s : State) (l : DeskLine) : (s.setLine l).plans = s.plans := by
  rfl
@[simp] theorem State.setLine_running (s : State) (l : DeskLine) : (s.setLine l).running = s.running := by
  rfl
@[simp] theorem State.setLine_ring (s : State) (l : DeskLine) : (s.setLine l).ring = s.ring := by
  rfl
@[simp] theorem State.setLine_arrivals (s : State) (l : DeskLine) : (s.setLine l).arrivals = s.arrivals := by
  rfl
@[simp] theorem State.setLine_sweep (s : State) (l : DeskLine) : (s.setLine l).sweep = s.sweep := by
  rfl
@[simp] theorem State.setLine_book (s : State) (l : DeskLine) : (s.setLine l).book = s.book := by
  rfl
@[simp] theorem State.setLine_notices (s : State) (l : DeskLine) : (s.setLine l).notices = s.notices := by
  rfl
@[simp] theorem State.setLine_days (s : State) (l : DeskLine) : (s.setLine l).days = s.days := by
  rfl

/-! `State.applyEnabled`: only the desk line changes -/

@[simp] theorem State.applyEnabled_pending (s : State) (t : Fin 4) : (s.applyEnabled t).pending = s.pending := by
  unfold State.applyEnabled; (repeat' split) <;> simp
@[simp] theorem State.applyEnabled_power (s : State) (t : Fin 4) : (s.applyEnabled t).power = s.power := by
  unfold State.applyEnabled; (repeat' split) <;> simp
@[simp] theorem State.applyEnabled_link (s : State) (t : Fin 4) : (s.applyEnabled t).link = s.link := by
  unfold State.applyEnabled; (repeat' split) <;> simp
@[simp] theorem State.applyEnabled_params (s : State) (t : Fin 4) : (s.applyEnabled t).params = s.params := by
  unfold State.applyEnabled; (repeat' split) <;> simp
@[simp] theorem State.applyEnabled_clock (s : State) (t : Fin 4) : (s.applyEnabled t).clock = s.clock := by
  unfold State.applyEnabled; (repeat' split) <;> simp
@[simp] theorem State.applyEnabled_countUps (s : State) (t : Fin 4) : (s.applyEnabled t).countUps = s.countUps := by
  unfold State.applyEnabled; (repeat' split) <;> simp
@[simp] theorem State.applyEnabled_roll (s : State) (t : Fin 4) : (s.applyEnabled t).roll = s.roll := by
  unfold State.applyEnabled; (repeat' split) <;> simp
@[simp] theorem State.applyEnabled_cards (s : State) (t : Fin 4) : (s.applyEnabled t).cards = s.cards := by
  unfold State.applyEnabled; (repeat' split) <;> simp
@[simp] theorem State.applyEnabled_plans (s : State) (t : Fin 4) : (s.applyEnabled t).plans = s.plans := by
  unfold State.applyEnabled; (repeat' split) <;> simp
@[simp] theorem State.applyEnabled_running (s : State) (t : Fin 4) : (s.applyEnabled t).running = s.running := by
  unfold State.applyEnabled; (repeat' split) <;> simp
@[simp] theorem State.applyEnabled_ring (s : State) (t : Fin 4) : (s.applyEnabled t).ring = s.ring := by
  unfold State.applyEnabled; (repeat' split) <;> simp
@[simp] theorem State.applyEnabled_arrivals (s : State) (t : Fin 4) : (s.applyEnabled t).arrivals = s.arrivals := by
  unfold State.applyEnabled; (repeat' split) <;> simp
@[simp] theorem State.applyEnabled_sweep (s : State) (t : Fin 4) : (s.applyEnabled t).sweep = s.sweep := by
  unfold State.applyEnabled; (repeat' split) <;> simp
@[simp] theorem State.applyEnabled_book (s : State) (t : Fin 4) : (s.applyEnabled t).book = s.book := by
  unfold State.applyEnabled; (repeat' split) <;> simp
@[simp] theorem State.applyEnabled_notices (s : State) (t : Fin 4) : (s.applyEnabled t).notices = s.notices := by
  unfold State.applyEnabled; (repeat' split) <;> simp
@[simp] theorem State.applyEnabled_days (s : State) (t : Fin 4) : (s.applyEnabled t).days = s.days := by
  unfold State.applyEnabled; (repeat' split) <;> simp

/-! `State.setEnabled`: the enabled set and the desk line change -/

@[simp] theorem State.setEnabled_pending (s : State) (v : BitVec 4) : (s.setEnabled v).pending = s.pending := by
  simp [State.setEnabled, allTerminals]
@[simp] theorem State.setEnabled_power (s : State) (v : BitVec 4) : (s.setEnabled v).power = s.power := by
  simp [State.setEnabled, allTerminals]
@[simp] theorem State.setEnabled_link (s : State) (v : BitVec 4) : (s.setEnabled v).link = s.link := by
  simp [State.setEnabled, allTerminals]
@[simp] theorem State.setEnabled_clock (s : State) (v : BitVec 4) : (s.setEnabled v).clock = s.clock := by
  simp [State.setEnabled, allTerminals]
@[simp] theorem State.setEnabled_countUps (s : State) (v : BitVec 4) : (s.setEnabled v).countUps = s.countUps := by
  simp [State.setEnabled, allTerminals]
@[simp] theorem State.setEnabled_roll (s : State) (v : BitVec 4) : (s.setEnabled v).roll = s.roll := by
  simp [State.setEnabled, allTerminals]
@[simp] theorem State.setEnabled_cards (s : State) (v : BitVec 4) : (s.setEnabled v).cards = s.cards := by
  simp [State.setEnabled, allTerminals]
@[simp] theorem State.setEnabled_plans (s : State) (v : BitVec 4) : (s.setEnabled v).plans = s.plans := by
  simp [State.setEnabled, allTerminals]
@[simp] theorem State.setEnabled_running (s : State) (v : BitVec 4) : (s.setEnabled v).running = s.running := by
  simp [State.setEnabled, allTerminals]
@[simp] theorem State.setEnabled_ring (s : State) (v : BitVec 4) : (s.setEnabled v).ring = s.ring := by
  simp [State.setEnabled, allTerminals]
@[simp] theorem State.setEnabled_arrivals (s : State) (v : BitVec 4) : (s.setEnabled v).arrivals = s.arrivals := by
  simp [State.setEnabled, allTerminals]
@[simp] theorem State.setEnabled_sweep (s : State) (v : BitVec 4) : (s.setEnabled v).sweep = s.sweep := by
  simp [State.setEnabled, allTerminals]
@[simp] theorem State.setEnabled_book (s : State) (v : BitVec 4) : (s.setEnabled v).book = s.book := by
  simp [State.setEnabled, allTerminals]
@[simp] theorem State.setEnabled_notices (s : State) (v : BitVec 4) : (s.setEnabled v).notices = s.notices := by
  simp [State.setEnabled, allTerminals]
@[simp] theorem State.setEnabled_days (s : State) (v : BitVec 4) : (s.setEnabled v).days = s.days := by
  simp [State.setEnabled, allTerminals]

/-! `State.closeExchange`: only the desk line changes -/

@[simp] theorem State.closeExchange_pending (s : State) (t : Fin 4) (l : DeskLine) : (s.closeExchange t l).pending = s.pending := by
  unfold State.closeExchange; (repeat' split) <;> simp
@[simp] theorem State.closeExchange_power (s : State) (t : Fin 4) (l : DeskLine) : (s.closeExchange t l).power = s.power := by
  unfold State.closeExchange; (repeat' split) <;> simp
@[simp] theorem State.closeExchange_link (s : State) (t : Fin 4) (l : DeskLine) : (s.closeExchange t l).link = s.link := by
  unfold State.closeExchange; (repeat' split) <;> simp
@[simp] theorem State.closeExchange_params (s : State) (t : Fin 4) (l : DeskLine) : (s.closeExchange t l).params = s.params := by
  unfold State.closeExchange; (repeat' split) <;> simp
@[simp] theorem State.closeExchange_clock (s : State) (t : Fin 4) (l : DeskLine) : (s.closeExchange t l).clock = s.clock := by
  unfold State.closeExchange; (repeat' split) <;> simp
@[simp] theorem State.closeExchange_countUps (s : State) (t : Fin 4) (l : DeskLine) : (s.closeExchange t l).countUps = s.countUps := by
  unfold State.closeExchange; (repeat' split) <;> simp
@[simp] theorem State.closeExchange_roll (s : State) (t : Fin 4) (l : DeskLine) : (s.closeExchange t l).roll = s.roll := by
  unfold State.closeExchange; (repeat' split) <;> simp
@[simp] theorem State.closeExchange_cards (s : State) (t : Fin 4) (l : DeskLine) : (s.closeExchange t l).cards = s.cards := by
  unfold State.closeExchange; (repeat' split) <;> simp
@[simp] theorem State.closeExchange_plans (s : State) (t : Fin 4) (l : DeskLine) : (s.closeExchange t l).plans = s.plans := by
  unfold State.closeExchange; (repeat' split) <;> simp
@[simp] theorem State.closeExchange_running (s : State) (t : Fin 4) (l : DeskLine) : (s.closeExchange t l).running = s.running := by
  unfold State.closeExchange; (repeat' split) <;> simp
@[simp] theorem State.closeExchange_ring (s : State) (t : Fin 4) (l : DeskLine) : (s.closeExchange t l).ring = s.ring := by
  unfold State.closeExchange; (repeat' split) <;> simp
@[simp] theorem State.closeExchange_arrivals (s : State) (t : Fin 4) (l : DeskLine) : (s.closeExchange t l).arrivals = s.arrivals := by
  unfold State.closeExchange; (repeat' split) <;> simp
@[simp] theorem State.closeExchange_sweep (s : State) (t : Fin 4) (l : DeskLine) : (s.closeExchange t l).sweep = s.sweep := by
  unfold State.closeExchange; (repeat' split) <;> simp
@[simp] theorem State.closeExchange_book (s : State) (t : Fin 4) (l : DeskLine) : (s.closeExchange t l).book = s.book := by
  unfold State.closeExchange; (repeat' split) <;> simp
@[simp] theorem State.closeExchange_notices (s : State) (t : Fin 4) (l : DeskLine) : (s.closeExchange t l).notices = s.notices := by
  unfold State.closeExchange; (repeat' split) <;> simp
@[simp] theorem State.closeExchange_days (s : State) (t : Fin 4) (l : DeskLine) : (s.closeExchange t l).days = s.days := by
  unfold State.closeExchange; (repeat' split) <;> simp

/-! `State.miss`: only the desk line and the pending classes change -/

@[simp] theorem State.miss_pending (s : State) (t : Fin 4) : (s.miss t).pending = s.pending := by
  unfold State.miss; (repeat' split) <;> simp
@[simp] theorem State.miss_power (s : State) (t : Fin 4) : (s.miss t).power = s.power := by
  unfold State.miss; (repeat' split) <;> simp
@[simp] theorem State.miss_params (s : State) (t : Fin 4) : (s.miss t).params = s.params := by
  unfold State.miss; (repeat' split) <;> simp
@[simp] theorem State.miss_clock (s : State) (t : Fin 4) : (s.miss t).clock = s.clock := by
  unfold State.miss; (repeat' split) <;> simp
@[simp] theorem State.miss_countUps (s : State) (t : Fin 4) : (s.miss t).countUps = s.countUps := by
  unfold State.miss; (repeat' split) <;> simp
@[simp] theorem State.miss_roll (s : State) (t : Fin 4) : (s.miss t).roll = s.roll := by
  unfold State.miss; (repeat' split) <;> simp
@[simp] theorem State.miss_cards (s : State) (t : Fin 4) : (s.miss t).cards = s.cards := by
  unfold State.miss; (repeat' split) <;> simp
@[simp] theorem State.miss_plans (s : State) (t : Fin 4) : (s.miss t).plans = s.plans := by
  unfold State.miss; (repeat' split) <;> simp
@[simp] theorem State.miss_running (s : State) (t : Fin 4) : (s.miss t).running = s.running := by
  unfold State.miss; (repeat' split) <;> simp
@[simp] theorem State.miss_ring (s : State) (t : Fin 4) : (s.miss t).ring = s.ring := by
  unfold State.miss; (repeat' split) <;> simp
@[simp] theorem State.miss_arrivals (s : State) (t : Fin 4) : (s.miss t).arrivals = s.arrivals := by
  unfold State.miss; (repeat' split) <;> simp
@[simp] theorem State.miss_sweep (s : State) (t : Fin 4) : (s.miss t).sweep = s.sweep := by
  unfold State.miss; (repeat' split) <;> simp
@[simp] theorem State.miss_book (s : State) (t : Fin 4) : (s.miss t).book = s.book := by
  unfold State.miss; (repeat' split) <;> simp
@[simp] theorem State.miss_notices (s : State) (t : Fin 4) : (s.miss t).notices = s.notices := by
  unfold State.miss; (repeat' split) <;> simp
@[simp] theorem State.miss_days (s : State) (t : Fin 4) : (s.miss t).days = s.days := by
  unfold State.miss; (repeat' split) <;> simp

/-! `State.validReply`: only the desk line and the pending classes change -/

@[simp] theorem State.validReply_pending (s : State) (e : Exchange) : (s.validReply e).pending = s.pending := by
  unfold State.validReply; dsimp only; (repeat' split) <;> simp
@[simp] theorem State.validReply_power (s : State) (e : Exchange) : (s.validReply e).power = s.power := by
  unfold State.validReply; dsimp only; (repeat' split) <;> simp
@[simp] theorem State.validReply_params (s : State) (e : Exchange) : (s.validReply e).params = s.params := by
  unfold State.validReply; dsimp only; (repeat' split) <;> simp
@[simp] theorem State.validReply_clock (s : State) (e : Exchange) : (s.validReply e).clock = s.clock := by
  unfold State.validReply; dsimp only; (repeat' split) <;> simp
@[simp] theorem State.validReply_countUps (s : State) (e : Exchange) : (s.validReply e).countUps = s.countUps := by
  unfold State.validReply; dsimp only; (repeat' split) <;> simp
@[simp] theorem State.validReply_roll (s : State) (e : Exchange) : (s.validReply e).roll = s.roll := by
  unfold State.validReply; dsimp only; (repeat' split) <;> simp
@[simp] theorem State.validReply_cards (s : State) (e : Exchange) : (s.validReply e).cards = s.cards := by
  unfold State.validReply; dsimp only; (repeat' split) <;> simp
@[simp] theorem State.validReply_plans (s : State) (e : Exchange) : (s.validReply e).plans = s.plans := by
  unfold State.validReply; dsimp only; (repeat' split) <;> simp
@[simp] theorem State.validReply_running (s : State) (e : Exchange) : (s.validReply e).running = s.running := by
  unfold State.validReply; dsimp only; (repeat' split) <;> simp
@[simp] theorem State.validReply_ring (s : State) (e : Exchange) : (s.validReply e).ring = s.ring := by
  unfold State.validReply; dsimp only; (repeat' split) <;> simp
@[simp] theorem State.validReply_arrivals (s : State) (e : Exchange) : (s.validReply e).arrivals = s.arrivals := by
  unfold State.validReply; dsimp only; (repeat' split) <;> simp
@[simp] theorem State.validReply_sweep (s : State) (e : Exchange) : (s.validReply e).sweep = s.sweep := by
  unfold State.validReply; dsimp only; (repeat' split) <;> simp
@[simp] theorem State.validReply_book (s : State) (e : Exchange) : (s.validReply e).book = s.book := by
  unfold State.validReply; dsimp only; (repeat' split) <;> simp
@[simp] theorem State.validReply_notices (s : State) (e : Exchange) : (s.validReply e).notices = s.notices := by
  unfold State.validReply; dsimp only; (repeat' split) <;> simp
@[simp] theorem State.validReply_days (s : State) (e : Exchange) : (s.validReply e).days = s.days := by
  unfold State.validReply; dsimp only; (repeat' split) <;> simp

/-! `State.takeTap`: only the desk line changes -/

@[simp] theorem State.takeTap_pending (s : State) (t : Fin 4) (c : Nat) (k : TapKind) : (s.takeTap t c k).pending = s.pending := by
  rfl
@[simp] theorem State.takeTap_power (s : State) (t : Fin 4) (c : Nat) (k : TapKind) : (s.takeTap t c k).power = s.power := by
  rfl
@[simp] theorem State.takeTap_link (s : State) (t : Fin 4) (c : Nat) (k : TapKind) : (s.takeTap t c k).link = s.link := by
  rfl
@[simp] theorem State.takeTap_params (s : State) (t : Fin 4) (c : Nat) (k : TapKind) : (s.takeTap t c k).params = s.params := by
  rfl
@[simp] theorem State.takeTap_clock (s : State) (t : Fin 4) (c : Nat) (k : TapKind) : (s.takeTap t c k).clock = s.clock := by
  rfl
@[simp] theorem State.takeTap_countUps (s : State) (t : Fin 4) (c : Nat) (k : TapKind) : (s.takeTap t c k).countUps = s.countUps := by
  rfl
@[simp] theorem State.takeTap_roll (s : State) (t : Fin 4) (c : Nat) (k : TapKind) : (s.takeTap t c k).roll = s.roll := by
  rfl
@[simp] theorem State.takeTap_cards (s : State) (t : Fin 4) (c : Nat) (k : TapKind) : (s.takeTap t c k).cards = s.cards := by
  rfl
@[simp] theorem State.takeTap_plans (s : State) (t : Fin 4) (c : Nat) (k : TapKind) : (s.takeTap t c k).plans = s.plans := by
  rfl
@[simp] theorem State.takeTap_running (s : State) (t : Fin 4) (c : Nat) (k : TapKind) : (s.takeTap t c k).running = s.running := by
  rfl
@[simp] theorem State.takeTap_ring (s : State) (t : Fin 4) (c : Nat) (k : TapKind) : (s.takeTap t c k).ring = s.ring := by
  rfl
@[simp] theorem State.takeTap_arrivals (s : State) (t : Fin 4) (c : Nat) (k : TapKind) : (s.takeTap t c k).arrivals = s.arrivals := by
  rfl
@[simp] theorem State.takeTap_sweep (s : State) (t : Fin 4) (c : Nat) (k : TapKind) : (s.takeTap t c k).sweep = s.sweep := by
  rfl
@[simp] theorem State.takeTap_book (s : State) (t : Fin 4) (c : Nat) (k : TapKind) : (s.takeTap t c k).book = s.book := by
  rfl
@[simp] theorem State.takeTap_notices (s : State) (t : Fin 4) (c : Nat) (k : TapKind) : (s.takeTap t c k).notices = s.notices := by
  rfl
@[simp] theorem State.takeTap_days (s : State) (t : Fin 4) (c : Nat) (k : TapKind) : (s.takeTap t c k).days = s.days := by
  rfl

/-! `State.discardTap`: only the desk line and the pending classes change -/

@[simp] theorem State.discardTap_pending (s : State) (t : Fin 4) : (s.discardTap t).pending = s.pending := by
  rfl
@[simp] theorem State.discardTap_power (s : State) (t : Fin 4) : (s.discardTap t).power = s.power := by
  rfl
@[simp] theorem State.discardTap_params (s : State) (t : Fin 4) : (s.discardTap t).params = s.params := by
  rfl
@[simp] theorem State.discardTap_clock (s : State) (t : Fin 4) : (s.discardTap t).clock = s.clock := by
  rfl
@[simp] theorem State.discardTap_countUps (s : State) (t : Fin 4) : (s.discardTap t).countUps = s.countUps := by
  rfl
@[simp] theorem State.discardTap_roll (s : State) (t : Fin 4) : (s.discardTap t).roll = s.roll := by
  rfl
@[simp] theorem State.discardTap_cards (s : State) (t : Fin 4) : (s.discardTap t).cards = s.cards := by
  rfl
@[simp] theorem State.discardTap_plans (s : State) (t : Fin 4) : (s.discardTap t).plans = s.plans := by
  rfl
@[simp] theorem State.discardTap_running (s : State) (t : Fin 4) : (s.discardTap t).running = s.running := by
  rfl
@[simp] theorem State.discardTap_ring (s : State) (t : Fin 4) : (s.discardTap t).ring = s.ring := by
  rfl
@[simp] theorem State.discardTap_arrivals (s : State) (t : Fin 4) : (s.discardTap t).arrivals = s.arrivals := by
  rfl
@[simp] theorem State.discardTap_sweep (s : State) (t : Fin 4) : (s.discardTap t).sweep = s.sweep := by
  rfl
@[simp] theorem State.discardTap_book (s : State) (t : Fin 4) : (s.discardTap t).book = s.book := by
  rfl
@[simp] theorem State.discardTap_notices (s : State) (t : Fin 4) : (s.discardTap t).notices = s.notices := by
  rfl
@[simp] theorem State.discardTap_days (s : State) (t : Fin 4) : (s.discardTap t).days = s.days := by
  rfl

/-! `State.useTap`: only the desk line and the pending classes change -/

@[simp] theorem State.useTap_pending (s : State) (e : Exchange) (c : ReplyContent) : (s.useTap e c).pending = s.pending := by
  unfold State.useTap; (repeat' split) <;> simp
@[simp] theorem State.useTap_power (s : State) (e : Exchange) (c : ReplyContent) : (s.useTap e c).power = s.power := by
  unfold State.useTap; (repeat' split) <;> simp
@[simp] theorem State.useTap_params (s : State) (e : Exchange) (c : ReplyContent) : (s.useTap e c).params = s.params := by
  unfold State.useTap; (repeat' split) <;> simp
@[simp] theorem State.useTap_clock (s : State) (e : Exchange) (c : ReplyContent) : (s.useTap e c).clock = s.clock := by
  unfold State.useTap; (repeat' split) <;> simp
@[simp] theorem State.useTap_countUps (s : State) (e : Exchange) (c : ReplyContent) : (s.useTap e c).countUps = s.countUps := by
  unfold State.useTap; (repeat' split) <;> simp
@[simp] theorem State.useTap_roll (s : State) (e : Exchange) (c : ReplyContent) : (s.useTap e c).roll = s.roll := by
  unfold State.useTap; (repeat' split) <;> simp
@[simp] theorem State.useTap_cards (s : State) (e : Exchange) (c : ReplyContent) : (s.useTap e c).cards = s.cards := by
  unfold State.useTap; (repeat' split) <;> simp
@[simp] theorem State.useTap_plans (s : State) (e : Exchange) (c : ReplyContent) : (s.useTap e c).plans = s.plans := by
  unfold State.useTap; (repeat' split) <;> simp
@[simp] theorem State.useTap_running (s : State) (e : Exchange) (c : ReplyContent) : (s.useTap e c).running = s.running := by
  unfold State.useTap; (repeat' split) <;> simp
@[simp] theorem State.useTap_ring (s : State) (e : Exchange) (c : ReplyContent) : (s.useTap e c).ring = s.ring := by
  unfold State.useTap; (repeat' split) <;> simp
@[simp] theorem State.useTap_arrivals (s : State) (e : Exchange) (c : ReplyContent) : (s.useTap e c).arrivals = s.arrivals := by
  unfold State.useTap; (repeat' split) <;> simp
@[simp] theorem State.useTap_sweep (s : State) (e : Exchange) (c : ReplyContent) : (s.useTap e c).sweep = s.sweep := by
  unfold State.useTap; (repeat' split) <;> simp
@[simp] theorem State.useTap_book (s : State) (e : Exchange) (c : ReplyContent) : (s.useTap e c).book = s.book := by
  unfold State.useTap; (repeat' split) <;> simp
@[simp] theorem State.useTap_notices (s : State) (e : Exchange) (c : ReplyContent) : (s.useTap e c).notices = s.notices := by
  unfold State.useTap; (repeat' split) <;> simp
@[simp] theorem State.useTap_days (s : State) (e : Exchange) (c : ReplyContent) : (s.useTap e c).days = s.days := by
  unfold State.useTap; (repeat' split) <;> simp

/-! `State.missExchange`: only the desk line and the pending classes change -/

@[simp] theorem State.missExchange_pending (s : State) (l : DeskLine) (e : Exchange) : (s.missExchange l e).pending = s.pending := by
  simp [State.missExchange]
@[simp] theorem State.missExchange_power (s : State) (l : DeskLine) (e : Exchange) : (s.missExchange l e).power = s.power := by
  simp [State.missExchange]
@[simp] theorem State.missExchange_params (s : State) (l : DeskLine) (e : Exchange) : (s.missExchange l e).params = s.params := by
  simp [State.missExchange]
@[simp] theorem State.missExchange_clock (s : State) (l : DeskLine) (e : Exchange) : (s.missExchange l e).clock = s.clock := by
  simp [State.missExchange]
@[simp] theorem State.missExchange_countUps (s : State) (l : DeskLine) (e : Exchange) : (s.missExchange l e).countUps = s.countUps := by
  simp [State.missExchange]
@[simp] theorem State.missExchange_roll (s : State) (l : DeskLine) (e : Exchange) : (s.missExchange l e).roll = s.roll := by
  simp [State.missExchange]
@[simp] theorem State.missExchange_cards (s : State) (l : DeskLine) (e : Exchange) : (s.missExchange l e).cards = s.cards := by
  simp [State.missExchange]
@[simp] theorem State.missExchange_plans (s : State) (l : DeskLine) (e : Exchange) : (s.missExchange l e).plans = s.plans := by
  simp [State.missExchange]
@[simp] theorem State.missExchange_running (s : State) (l : DeskLine) (e : Exchange) : (s.missExchange l e).running = s.running := by
  simp [State.missExchange]
@[simp] theorem State.missExchange_ring (s : State) (l : DeskLine) (e : Exchange) : (s.missExchange l e).ring = s.ring := by
  simp [State.missExchange]
@[simp] theorem State.missExchange_arrivals (s : State) (l : DeskLine) (e : Exchange) : (s.missExchange l e).arrivals = s.arrivals := by
  simp [State.missExchange]
@[simp] theorem State.missExchange_sweep (s : State) (l : DeskLine) (e : Exchange) : (s.missExchange l e).sweep = s.sweep := by
  simp [State.missExchange]
@[simp] theorem State.missExchange_book (s : State) (l : DeskLine) (e : Exchange) : (s.missExchange l e).book = s.book := by
  simp [State.missExchange]
@[simp] theorem State.missExchange_notices (s : State) (l : DeskLine) (e : Exchange) : (s.missExchange l e).notices = s.notices := by
  simp [State.missExchange]
@[simp] theorem State.missExchange_days (s : State) (l : DeskLine) (e : Exchange) : (s.missExchange l e).days = s.days := by
  simp [State.missExchange]

/-! `State.hearAddress`: only the desk line and the pending classes change -/

@[simp] theorem State.hearAddress_pending (s : State) (b : Byte) (e : Exchange) : (s.hearAddress b e).pending = s.pending := by
  unfold State.hearAddress; (repeat' split) <;> simp
@[simp] theorem State.hearAddress_power (s : State) (b : Byte) (e : Exchange) : (s.hearAddress b e).power = s.power := by
  unfold State.hearAddress; (repeat' split) <;> simp
@[simp] theorem State.hearAddress_params (s : State) (b : Byte) (e : Exchange) : (s.hearAddress b e).params = s.params := by
  unfold State.hearAddress; (repeat' split) <;> simp
@[simp] theorem State.hearAddress_clock (s : State) (b : Byte) (e : Exchange) : (s.hearAddress b e).clock = s.clock := by
  unfold State.hearAddress; (repeat' split) <;> simp
@[simp] theorem State.hearAddress_countUps (s : State) (b : Byte) (e : Exchange) : (s.hearAddress b e).countUps = s.countUps := by
  unfold State.hearAddress; (repeat' split) <;> simp
@[simp] theorem State.hearAddress_roll (s : State) (b : Byte) (e : Exchange) : (s.hearAddress b e).roll = s.roll := by
  unfold State.hearAddress; (repeat' split) <;> simp
@[simp] theorem State.hearAddress_cards (s : State) (b : Byte) (e : Exchange) : (s.hearAddress b e).cards = s.cards := by
  unfold State.hearAddress; (repeat' split) <;> simp
@[simp] theorem State.hearAddress_plans (s : State) (b : Byte) (e : Exchange) : (s.hearAddress b e).plans = s.plans := by
  unfold State.hearAddress; (repeat' split) <;> simp
@[simp] theorem State.hearAddress_running (s : State) (b : Byte) (e : Exchange) : (s.hearAddress b e).running = s.running := by
  unfold State.hearAddress; (repeat' split) <;> simp
@[simp] theorem State.hearAddress_ring (s : State) (b : Byte) (e : Exchange) : (s.hearAddress b e).ring = s.ring := by
  unfold State.hearAddress; (repeat' split) <;> simp
@[simp] theorem State.hearAddress_arrivals (s : State) (b : Byte) (e : Exchange) : (s.hearAddress b e).arrivals = s.arrivals := by
  unfold State.hearAddress; (repeat' split) <;> simp
@[simp] theorem State.hearAddress_sweep (s : State) (b : Byte) (e : Exchange) : (s.hearAddress b e).sweep = s.sweep := by
  unfold State.hearAddress; (repeat' split) <;> simp
@[simp] theorem State.hearAddress_book (s : State) (b : Byte) (e : Exchange) : (s.hearAddress b e).book = s.book := by
  unfold State.hearAddress; (repeat' split) <;> simp
@[simp] theorem State.hearAddress_notices (s : State) (b : Byte) (e : Exchange) : (s.hearAddress b e).notices = s.notices := by
  unfold State.hearAddress; (repeat' split) <;> simp
@[simp] theorem State.hearAddress_days (s : State) (b : Byte) (e : Exchange) : (s.hearAddress b e).days = s.days := by
  unfold State.hearAddress; (repeat' split) <;> simp

/-! `State.judgeExchange`: only the desk line and the pending classes change -/

@[simp] theorem State.judgeExchange_pending (s : State) (e : Exchange) (a : Byte) (l : Bytes) : (s.judgeExchange e a l).pending = s.pending := by
  unfold State.judgeExchange; (repeat' split) <;> simp
@[simp] theorem State.judgeExchange_power (s : State) (e : Exchange) (a : Byte) (l : Bytes) : (s.judgeExchange e a l).power = s.power := by
  unfold State.judgeExchange; (repeat' split) <;> simp
@[simp] theorem State.judgeExchange_params (s : State) (e : Exchange) (a : Byte) (l : Bytes) : (s.judgeExchange e a l).params = s.params := by
  unfold State.judgeExchange; (repeat' split) <;> simp
@[simp] theorem State.judgeExchange_clock (s : State) (e : Exchange) (a : Byte) (l : Bytes) : (s.judgeExchange e a l).clock = s.clock := by
  unfold State.judgeExchange; (repeat' split) <;> simp
@[simp] theorem State.judgeExchange_countUps (s : State) (e : Exchange) (a : Byte) (l : Bytes) : (s.judgeExchange e a l).countUps = s.countUps := by
  unfold State.judgeExchange; (repeat' split) <;> simp
@[simp] theorem State.judgeExchange_roll (s : State) (e : Exchange) (a : Byte) (l : Bytes) : (s.judgeExchange e a l).roll = s.roll := by
  unfold State.judgeExchange; (repeat' split) <;> simp
@[simp] theorem State.judgeExchange_cards (s : State) (e : Exchange) (a : Byte) (l : Bytes) : (s.judgeExchange e a l).cards = s.cards := by
  unfold State.judgeExchange; (repeat' split) <;> simp
@[simp] theorem State.judgeExchange_plans (s : State) (e : Exchange) (a : Byte) (l : Bytes) : (s.judgeExchange e a l).plans = s.plans := by
  unfold State.judgeExchange; (repeat' split) <;> simp
@[simp] theorem State.judgeExchange_running (s : State) (e : Exchange) (a : Byte) (l : Bytes) : (s.judgeExchange e a l).running = s.running := by
  unfold State.judgeExchange; (repeat' split) <;> simp
@[simp] theorem State.judgeExchange_ring (s : State) (e : Exchange) (a : Byte) (l : Bytes) : (s.judgeExchange e a l).ring = s.ring := by
  unfold State.judgeExchange; (repeat' split) <;> simp
@[simp] theorem State.judgeExchange_arrivals (s : State) (e : Exchange) (a : Byte) (l : Bytes) : (s.judgeExchange e a l).arrivals = s.arrivals := by
  unfold State.judgeExchange; (repeat' split) <;> simp
@[simp] theorem State.judgeExchange_sweep (s : State) (e : Exchange) (a : Byte) (l : Bytes) : (s.judgeExchange e a l).sweep = s.sweep := by
  unfold State.judgeExchange; (repeat' split) <;> simp
@[simp] theorem State.judgeExchange_book (s : State) (e : Exchange) (a : Byte) (l : Bytes) : (s.judgeExchange e a l).book = s.book := by
  unfold State.judgeExchange; (repeat' split) <;> simp
@[simp] theorem State.judgeExchange_notices (s : State) (e : Exchange) (a : Byte) (l : Bytes) : (s.judgeExchange e a l).notices = s.notices := by
  unfold State.judgeExchange; (repeat' split) <;> simp
@[simp] theorem State.judgeExchange_days (s : State) (e : Exchange) (a : Byte) (l : Bytes) : (s.judgeExchange e a l).days = s.days := by
  unfold State.judgeExchange; (repeat' split) <;> simp

/-! `State.beginPoll`: only the desk line changes -/

@[simp] theorem State.beginPoll_pending (s : State) (t : Fin 4) : (s.beginPoll t).pending = s.pending := by
  unfold State.beginPoll; dsimp only; (repeat' split) <;> simp
@[simp] theorem State.beginPoll_power (s : State) (t : Fin 4) : (s.beginPoll t).power = s.power := by
  unfold State.beginPoll; dsimp only; (repeat' split) <;> simp
@[simp] theorem State.beginPoll_link (s : State) (t : Fin 4) : (s.beginPoll t).link = s.link := by
  unfold State.beginPoll; dsimp only; (repeat' split) <;> simp
@[simp] theorem State.beginPoll_params (s : State) (t : Fin 4) : (s.beginPoll t).params = s.params := by
  unfold State.beginPoll; dsimp only; (repeat' split) <;> simp
@[simp] theorem State.beginPoll_clock (s : State) (t : Fin 4) : (s.beginPoll t).clock = s.clock := by
  unfold State.beginPoll; dsimp only; (repeat' split) <;> simp
@[simp] theorem State.beginPoll_countUps (s : State) (t : Fin 4) : (s.beginPoll t).countUps = s.countUps := by
  unfold State.beginPoll; dsimp only; (repeat' split) <;> simp
@[simp] theorem State.beginPoll_roll (s : State) (t : Fin 4) : (s.beginPoll t).roll = s.roll := by
  unfold State.beginPoll; dsimp only; (repeat' split) <;> simp
@[simp] theorem State.beginPoll_cards (s : State) (t : Fin 4) : (s.beginPoll t).cards = s.cards := by
  unfold State.beginPoll; dsimp only; (repeat' split) <;> simp
@[simp] theorem State.beginPoll_plans (s : State) (t : Fin 4) : (s.beginPoll t).plans = s.plans := by
  unfold State.beginPoll; dsimp only; (repeat' split) <;> simp
@[simp] theorem State.beginPoll_running (s : State) (t : Fin 4) : (s.beginPoll t).running = s.running := by
  unfold State.beginPoll; dsimp only; (repeat' split) <;> simp
@[simp] theorem State.beginPoll_ring (s : State) (t : Fin 4) : (s.beginPoll t).ring = s.ring := by
  unfold State.beginPoll; dsimp only; (repeat' split) <;> simp
@[simp] theorem State.beginPoll_arrivals (s : State) (t : Fin 4) : (s.beginPoll t).arrivals = s.arrivals := by
  unfold State.beginPoll; dsimp only; (repeat' split) <;> simp
@[simp] theorem State.beginPoll_sweep (s : State) (t : Fin 4) : (s.beginPoll t).sweep = s.sweep := by
  unfold State.beginPoll; dsimp only; (repeat' split) <;> simp
@[simp] theorem State.beginPoll_book (s : State) (t : Fin 4) : (s.beginPoll t).book = s.book := by
  unfold State.beginPoll; dsimp only; (repeat' split) <;> simp
@[simp] theorem State.beginPoll_notices (s : State) (t : Fin 4) : (s.beginPoll t).notices = s.notices := by
  unfold State.beginPoll; dsimp only; (repeat' split) <;> simp
@[simp] theorem State.beginPoll_days (s : State) (t : Fin 4) : (s.beginPoll t).days = s.days := by
  unfold State.beginPoll; dsimp only; (repeat' split) <;> simp

/-! `State.stopDesk`: only the desk line changes -/

@[simp] theorem State.stopDesk_pending (s : State) (d : Bool) : (s.stopDesk d).pending = s.pending := by
  rfl
@[simp] theorem State.stopDesk_power (s : State) (d : Bool) : (s.stopDesk d).power = s.power := by
  rfl
@[simp] theorem State.stopDesk_link (s : State) (d : Bool) : (s.stopDesk d).link = s.link := by
  rfl
@[simp] theorem State.stopDesk_params (s : State) (d : Bool) : (s.stopDesk d).params = s.params := by
  rfl
@[simp] theorem State.stopDesk_clock (s : State) (d : Bool) : (s.stopDesk d).clock = s.clock := by
  rfl
@[simp] theorem State.stopDesk_countUps (s : State) (d : Bool) : (s.stopDesk d).countUps = s.countUps := by
  rfl
@[simp] theorem State.stopDesk_roll (s : State) (d : Bool) : (s.stopDesk d).roll = s.roll := by
  rfl
@[simp] theorem State.stopDesk_cards (s : State) (d : Bool) : (s.stopDesk d).cards = s.cards := by
  rfl
@[simp] theorem State.stopDesk_plans (s : State) (d : Bool) : (s.stopDesk d).plans = s.plans := by
  rfl
@[simp] theorem State.stopDesk_running (s : State) (d : Bool) : (s.stopDesk d).running = s.running := by
  rfl
@[simp] theorem State.stopDesk_ring (s : State) (d : Bool) : (s.stopDesk d).ring = s.ring := by
  rfl
@[simp] theorem State.stopDesk_arrivals (s : State) (d : Bool) : (s.stopDesk d).arrivals = s.arrivals := by
  rfl
@[simp] theorem State.stopDesk_sweep (s : State) (d : Bool) : (s.stopDesk d).sweep = s.sweep := by
  rfl
@[simp] theorem State.stopDesk_book (s : State) (d : Bool) : (s.stopDesk d).book = s.book := by
  rfl
@[simp] theorem State.stopDesk_notices (s : State) (d : Bool) : (s.stopDesk d).notices = s.notices := by
  rfl
@[simp] theorem State.stopDesk_days (s : State) (d : Bool) : (s.stopDesk d).days = s.days := by
  rfl

/-! `State.takeOffList`: only the off-site list changes -/

@[simp] theorem State.takeOffList_pending (s : State) (i : Nat) : (s.takeOffList i).pending = s.pending := by
  rfl
@[simp] theorem State.takeOffList_power (s : State) (i : Nat) : (s.takeOffList i).power = s.power := by
  rfl
@[simp] theorem State.takeOffList_link (s : State) (i : Nat) : (s.takeOffList i).link = s.link := by
  rfl
@[simp] theorem State.takeOffList_params (s : State) (i : Nat) : (s.takeOffList i).params = s.params := by
  rfl
@[simp] theorem State.takeOffList_clock (s : State) (i : Nat) : (s.takeOffList i).clock = s.clock := by
  rfl
@[simp] theorem State.takeOffList_countUps (s : State) (i : Nat) : (s.takeOffList i).countUps = s.countUps := by
  rfl
@[simp] theorem State.takeOffList_roll (s : State) (i : Nat) : (s.takeOffList i).roll = s.roll := by
  rfl
@[simp] theorem State.takeOffList_cards (s : State) (i : Nat) : (s.takeOffList i).cards = s.cards := by
  rfl
@[simp] theorem State.takeOffList_plans (s : State) (i : Nat) : (s.takeOffList i).plans = s.plans := by
  rfl
@[simp] theorem State.takeOffList_running (s : State) (i : Nat) : (s.takeOffList i).running = s.running := by
  rfl
@[simp] theorem State.takeOffList_ring (s : State) (i : Nat) : (s.takeOffList i).ring = s.ring := by
  rfl
@[simp] theorem State.takeOffList_desk (s : State) (i : Nat) : (s.takeOffList i).desk = s.desk := by
  rfl
@[simp] theorem State.takeOffList_sweep (s : State) (i : Nat) : (s.takeOffList i).sweep = s.sweep := by
  rfl
@[simp] theorem State.takeOffList_book (s : State) (i : Nat) : (s.takeOffList i).book = s.book := by
  rfl
@[simp] theorem State.takeOffList_notices (s : State) (i : Nat) : (s.takeOffList i).notices = s.notices := by
  rfl
@[simp] theorem State.takeOffList_days (s : State) (i : Nat) : (s.takeOffList i).days = s.days := by
  rfl

/-! `State.putOffsite`: only the off-site list changes -/

@[simp] theorem State.putOffsite_pending (s : State) (i n : Nat) (r : Reason) : (s.putOffsite i n r).pending = s.pending := by
  rfl
@[simp] theorem State.putOffsite_power (s : State) (i n : Nat) (r : Reason) : (s.putOffsite i n r).power = s.power := by
  rfl
@[simp] theorem State.putOffsite_link (s : State) (i n : Nat) (r : Reason) : (s.putOffsite i n r).link = s.link := by
  rfl
@[simp] theorem State.putOffsite_params (s : State) (i n : Nat) (r : Reason) : (s.putOffsite i n r).params = s.params := by
  rfl
@[simp] theorem State.putOffsite_clock (s : State) (i n : Nat) (r : Reason) : (s.putOffsite i n r).clock = s.clock := by
  rfl
@[simp] theorem State.putOffsite_countUps (s : State) (i n : Nat) (r : Reason) : (s.putOffsite i n r).countUps = s.countUps := by
  rfl
@[simp] theorem State.putOffsite_roll (s : State) (i n : Nat) (r : Reason) : (s.putOffsite i n r).roll = s.roll := by
  rfl
@[simp] theorem State.putOffsite_cards (s : State) (i n : Nat) (r : Reason) : (s.putOffsite i n r).cards = s.cards := by
  rfl
@[simp] theorem State.putOffsite_plans (s : State) (i n : Nat) (r : Reason) : (s.putOffsite i n r).plans = s.plans := by
  rfl
@[simp] theorem State.putOffsite_running (s : State) (i n : Nat) (r : Reason) : (s.putOffsite i n r).running = s.running := by
  rfl
@[simp] theorem State.putOffsite_ring (s : State) (i n : Nat) (r : Reason) : (s.putOffsite i n r).ring = s.ring := by
  rfl
@[simp] theorem State.putOffsite_desk (s : State) (i n : Nat) (r : Reason) : (s.putOffsite i n r).desk = s.desk := by
  rfl
@[simp] theorem State.putOffsite_sweep (s : State) (i n : Nat) (r : Reason) : (s.putOffsite i n r).sweep = s.sweep := by
  rfl
@[simp] theorem State.putOffsite_book (s : State) (i n : Nat) (r : Reason) : (s.putOffsite i n r).book = s.book := by
  rfl
@[simp] theorem State.putOffsite_notices (s : State) (i n : Nat) (r : Reason) : (s.putOffsite i n r).notices = s.notices := by
  rfl
@[simp] theorem State.putOffsite_days (s : State) (i n : Nat) (r : Reason) : (s.putOffsite i n r).days = s.days := by
  rfl

/-! `State.writeLog`: only the log and the pending classes change -/

@[simp] theorem State.writeLog_pending (s : State) (r : LogRecord) : (s.writeLog r).pending = s.pending := by
  unfold State.writeLog; (repeat' split) <;> simp
@[simp] theorem State.writeLog_power (s : State) (r : LogRecord) : (s.writeLog r).power = s.power := by
  unfold State.writeLog; (repeat' split) <;> simp
@[simp] theorem State.writeLog_params (s : State) (r : LogRecord) : (s.writeLog r).params = s.params := by
  unfold State.writeLog; (repeat' split) <;> simp
@[simp] theorem State.writeLog_clock (s : State) (r : LogRecord) : (s.writeLog r).clock = s.clock := by
  unfold State.writeLog; (repeat' split) <;> simp
@[simp] theorem State.writeLog_countUps (s : State) (r : LogRecord) : (s.writeLog r).countUps = s.countUps := by
  unfold State.writeLog; (repeat' split) <;> simp
@[simp] theorem State.writeLog_roll (s : State) (r : LogRecord) : (s.writeLog r).roll = s.roll := by
  unfold State.writeLog; (repeat' split) <;> simp
@[simp] theorem State.writeLog_cards (s : State) (r : LogRecord) : (s.writeLog r).cards = s.cards := by
  unfold State.writeLog; (repeat' split) <;> simp
@[simp] theorem State.writeLog_plans (s : State) (r : LogRecord) : (s.writeLog r).plans = s.plans := by
  unfold State.writeLog; (repeat' split) <;> simp
@[simp] theorem State.writeLog_running (s : State) (r : LogRecord) : (s.writeLog r).running = s.running := by
  unfold State.writeLog; (repeat' split) <;> simp
@[simp] theorem State.writeLog_ring (s : State) (r : LogRecord) : (s.writeLog r).ring = s.ring := by
  unfold State.writeLog; (repeat' split) <;> simp
@[simp] theorem State.writeLog_desk (s : State) (r : LogRecord) : (s.writeLog r).desk = s.desk := by
  unfold State.writeLog; (repeat' split) <;> simp
@[simp] theorem State.writeLog_sweep (s : State) (r : LogRecord) : (s.writeLog r).sweep = s.sweep := by
  unfold State.writeLog; (repeat' split) <;> simp
@[simp] theorem State.writeLog_book (s : State) (r : LogRecord) : (s.writeLog r).book = s.book := by
  unfold State.writeLog; (repeat' split) <;> simp
@[simp] theorem State.writeLog_notices (s : State) (r : LogRecord) : (s.writeLog r).notices = s.notices := by
  unfold State.writeLog; (repeat' split) <;> simp
@[simp] theorem State.writeLog_days (s : State) (r : LogRecord) : (s.writeLog r).days = s.days := by
  unfold State.writeLog; (repeat' split) <;> simp

/-! `State.flagArrival`: only the book changes -/

@[simp] theorem State.flagArrival_pending (s : State) (i : Nat) (k : Session) (l : Lateness) : (s.flagArrival i k l).pending = s.pending := by
  unfold State.flagArrival; (repeat' split) <;> simp
@[simp] theorem State.flagArrival_power (s : State) (i : Nat) (k : Session) (l : Lateness) : (s.flagArrival i k l).power = s.power := by
  unfold State.flagArrival; (repeat' split) <;> simp
@[simp] theorem State.flagArrival_link (s : State) (i : Nat) (k : Session) (l : Lateness) : (s.flagArrival i k l).link = s.link := by
  unfold State.flagArrival; (repeat' split) <;> simp
@[simp] theorem State.flagArrival_params (s : State) (i : Nat) (k : Session) (l : Lateness) : (s.flagArrival i k l).params = s.params := by
  unfold State.flagArrival; (repeat' split) <;> simp
@[simp] theorem State.flagArrival_clock (s : State) (i : Nat) (k : Session) (l : Lateness) : (s.flagArrival i k l).clock = s.clock := by
  unfold State.flagArrival; (repeat' split) <;> simp
@[simp] theorem State.flagArrival_countUps (s : State) (i : Nat) (k : Session) (l : Lateness) : (s.flagArrival i k l).countUps = s.countUps := by
  unfold State.flagArrival; (repeat' split) <;> simp
@[simp] theorem State.flagArrival_roll (s : State) (i : Nat) (k : Session) (l : Lateness) : (s.flagArrival i k l).roll = s.roll := by
  unfold State.flagArrival; (repeat' split) <;> simp
@[simp] theorem State.flagArrival_cards (s : State) (i : Nat) (k : Session) (l : Lateness) : (s.flagArrival i k l).cards = s.cards := by
  unfold State.flagArrival; (repeat' split) <;> simp
@[simp] theorem State.flagArrival_plans (s : State) (i : Nat) (k : Session) (l : Lateness) : (s.flagArrival i k l).plans = s.plans := by
  unfold State.flagArrival; (repeat' split) <;> simp
@[simp] theorem State.flagArrival_running (s : State) (i : Nat) (k : Session) (l : Lateness) : (s.flagArrival i k l).running = s.running := by
  unfold State.flagArrival; (repeat' split) <;> simp
@[simp] theorem State.flagArrival_ring (s : State) (i : Nat) (k : Session) (l : Lateness) : (s.flagArrival i k l).ring = s.ring := by
  unfold State.flagArrival; (repeat' split) <;> simp
@[simp] theorem State.flagArrival_desk (s : State) (i : Nat) (k : Session) (l : Lateness) : (s.flagArrival i k l).desk = s.desk := by
  unfold State.flagArrival; (repeat' split) <;> simp
@[simp] theorem State.flagArrival_arrivals (s : State) (i : Nat) (k : Session) (l : Lateness) : (s.flagArrival i k l).arrivals = s.arrivals := by
  unfold State.flagArrival; (repeat' split) <;> simp
@[simp] theorem State.flagArrival_sweep (s : State) (i : Nat) (k : Session) (l : Lateness) : (s.flagArrival i k l).sweep = s.sweep := by
  unfold State.flagArrival; (repeat' split) <;> simp
@[simp] theorem State.flagArrival_notices (s : State) (i : Nat) (k : Session) (l : Lateness) : (s.flagArrival i k l).notices = s.notices := by
  unfold State.flagArrival; (repeat' split) <;> simp
@[simp] theorem State.flagArrival_days (s : State) (i : Nat) (k : Session) (l : Lateness) : (s.flagArrival i k l).days = s.days := by
  unfold State.flagArrival; (repeat' split) <;> simp

/-! `State.offerLate`: only the notices and the pending classes change -/

@[simp] theorem State.offerLate_pending (s : State) (i : Nat) (p : Pupil) (k : Session) (l : Lateness) : (s.offerLate i p k l).pending = s.pending := by
  unfold State.offerLate; (repeat' split) <;> simp
@[simp] theorem State.offerLate_power (s : State) (i : Nat) (p : Pupil) (k : Session) (l : Lateness) : (s.offerLate i p k l).power = s.power := by
  unfold State.offerLate; (repeat' split) <;> simp
@[simp] theorem State.offerLate_params (s : State) (i : Nat) (p : Pupil) (k : Session) (l : Lateness) : (s.offerLate i p k l).params = s.params := by
  unfold State.offerLate; (repeat' split) <;> simp
@[simp] theorem State.offerLate_clock (s : State) (i : Nat) (p : Pupil) (k : Session) (l : Lateness) : (s.offerLate i p k l).clock = s.clock := by
  unfold State.offerLate; (repeat' split) <;> simp
@[simp] theorem State.offerLate_countUps (s : State) (i : Nat) (p : Pupil) (k : Session) (l : Lateness) : (s.offerLate i p k l).countUps = s.countUps := by
  unfold State.offerLate; (repeat' split) <;> simp
@[simp] theorem State.offerLate_roll (s : State) (i : Nat) (p : Pupil) (k : Session) (l : Lateness) : (s.offerLate i p k l).roll = s.roll := by
  unfold State.offerLate; (repeat' split) <;> simp
@[simp] theorem State.offerLate_cards (s : State) (i : Nat) (p : Pupil) (k : Session) (l : Lateness) : (s.offerLate i p k l).cards = s.cards := by
  unfold State.offerLate; (repeat' split) <;> simp
@[simp] theorem State.offerLate_plans (s : State) (i : Nat) (p : Pupil) (k : Session) (l : Lateness) : (s.offerLate i p k l).plans = s.plans := by
  unfold State.offerLate; (repeat' split) <;> simp
@[simp] theorem State.offerLate_running (s : State) (i : Nat) (p : Pupil) (k : Session) (l : Lateness) : (s.offerLate i p k l).running = s.running := by
  unfold State.offerLate; (repeat' split) <;> simp
@[simp] theorem State.offerLate_ring (s : State) (i : Nat) (p : Pupil) (k : Session) (l : Lateness) : (s.offerLate i p k l).ring = s.ring := by
  unfold State.offerLate; (repeat' split) <;> simp
@[simp] theorem State.offerLate_desk (s : State) (i : Nat) (p : Pupil) (k : Session) (l : Lateness) : (s.offerLate i p k l).desk = s.desk := by
  unfold State.offerLate; (repeat' split) <;> simp
@[simp] theorem State.offerLate_arrivals (s : State) (i : Nat) (p : Pupil) (k : Session) (l : Lateness) : (s.offerLate i p k l).arrivals = s.arrivals := by
  unfold State.offerLate; (repeat' split) <;> simp
@[simp] theorem State.offerLate_sweep (s : State) (i : Nat) (p : Pupil) (k : Session) (l : Lateness) : (s.offerLate i p k l).sweep = s.sweep := by
  unfold State.offerLate; (repeat' split) <;> simp
@[simp] theorem State.offerLate_book (s : State) (i : Nat) (p : Pupil) (k : Session) (l : Lateness) : (s.offerLate i p k l).book = s.book := by
  unfold State.offerLate; (repeat' split) <;> simp
@[simp] theorem State.offerLate_days (s : State) (i : Nat) (p : Pupil) (k : Session) (l : Lateness) : (s.offerLate i p k l).days = s.days := by
  unfold State.offerLate; (repeat' split) <;> simp

/-! `State.handBack`: only the desk line changes -/

@[simp] theorem State.handBack_pending (s : State) (t : Fin 4) (v : Verdict) : (s.handBack t v).pending = s.pending := by
  rfl
@[simp] theorem State.handBack_power (s : State) (t : Fin 4) (v : Verdict) : (s.handBack t v).power = s.power := by
  rfl
@[simp] theorem State.handBack_link (s : State) (t : Fin 4) (v : Verdict) : (s.handBack t v).link = s.link := by
  rfl
@[simp] theorem State.handBack_params (s : State) (t : Fin 4) (v : Verdict) : (s.handBack t v).params = s.params := by
  rfl
@[simp] theorem State.handBack_clock (s : State) (t : Fin 4) (v : Verdict) : (s.handBack t v).clock = s.clock := by
  rfl
@[simp] theorem State.handBack_countUps (s : State) (t : Fin 4) (v : Verdict) : (s.handBack t v).countUps = s.countUps := by
  rfl
@[simp] theorem State.handBack_roll (s : State) (t : Fin 4) (v : Verdict) : (s.handBack t v).roll = s.roll := by
  rfl
@[simp] theorem State.handBack_cards (s : State) (t : Fin 4) (v : Verdict) : (s.handBack t v).cards = s.cards := by
  rfl
@[simp] theorem State.handBack_plans (s : State) (t : Fin 4) (v : Verdict) : (s.handBack t v).plans = s.plans := by
  rfl
@[simp] theorem State.handBack_running (s : State) (t : Fin 4) (v : Verdict) : (s.handBack t v).running = s.running := by
  rfl
@[simp] theorem State.handBack_ring (s : State) (t : Fin 4) (v : Verdict) : (s.handBack t v).ring = s.ring := by
  rfl
@[simp] theorem State.handBack_arrivals (s : State) (t : Fin 4) (v : Verdict) : (s.handBack t v).arrivals = s.arrivals := by
  rfl
@[simp] theorem State.handBack_sweep (s : State) (t : Fin 4) (v : Verdict) : (s.handBack t v).sweep = s.sweep := by
  rfl
@[simp] theorem State.handBack_book (s : State) (t : Fin 4) (v : Verdict) : (s.handBack t v).book = s.book := by
  rfl
@[simp] theorem State.handBack_notices (s : State) (t : Fin 4) (v : Verdict) : (s.handBack t v).notices = s.notices := by
  rfl
@[simp] theorem State.handBack_days (s : State) (t : Fin 4) (v : Verdict) : (s.handBack t v).days = s.days := by
  rfl

/-! `State.placeSweep`: only the sweep queue changes -/

@[simp] theorem State.placeSweep_pending (s : State) (r : SweepRequest) : (s.placeSweep r).pending = s.pending := by
  rfl
@[simp] theorem State.placeSweep_power (s : State) (r : SweepRequest) : (s.placeSweep r).power = s.power := by
  rfl
@[simp] theorem State.placeSweep_link (s : State) (r : SweepRequest) : (s.placeSweep r).link = s.link := by
  rfl
@[simp] theorem State.placeSweep_params (s : State) (r : SweepRequest) : (s.placeSweep r).params = s.params := by
  rfl
@[simp] theorem State.placeSweep_clock (s : State) (r : SweepRequest) : (s.placeSweep r).clock = s.clock := by
  rfl
@[simp] theorem State.placeSweep_countUps (s : State) (r : SweepRequest) : (s.placeSweep r).countUps = s.countUps := by
  rfl
@[simp] theorem State.placeSweep_roll (s : State) (r : SweepRequest) : (s.placeSweep r).roll = s.roll := by
  rfl
@[simp] theorem State.placeSweep_cards (s : State) (r : SweepRequest) : (s.placeSweep r).cards = s.cards := by
  rfl
@[simp] theorem State.placeSweep_plans (s : State) (r : SweepRequest) : (s.placeSweep r).plans = s.plans := by
  rfl
@[simp] theorem State.placeSweep_running (s : State) (r : SweepRequest) : (s.placeSweep r).running = s.running := by
  rfl
@[simp] theorem State.placeSweep_ring (s : State) (r : SweepRequest) : (s.placeSweep r).ring = s.ring := by
  rfl
@[simp] theorem State.placeSweep_desk (s : State) (r : SweepRequest) : (s.placeSweep r).desk = s.desk := by
  rfl
@[simp] theorem State.placeSweep_arrivals (s : State) (r : SweepRequest) : (s.placeSweep r).arrivals = s.arrivals := by
  rfl
@[simp] theorem State.placeSweep_book (s : State) (r : SweepRequest) : (s.placeSweep r).book = s.book := by
  rfl
@[simp] theorem State.placeSweep_notices (s : State) (r : SweepRequest) : (s.placeSweep r).notices = s.notices := by
  rfl
@[simp] theorem State.placeSweep_days (s : State) (r : SweepRequest) : (s.placeSweep r).days = s.days := by
  rfl

/-! `State.setFlight`: only the sweep in flight changes -/

@[simp] theorem State.setFlight_pending (s : State) (f : SweepFlight) : (s.setFlight f).pending = s.pending := by
  rfl
@[simp] theorem State.setFlight_power (s : State) (f : SweepFlight) : (s.setFlight f).power = s.power := by
  rfl
@[simp] theorem State.setFlight_link (s : State) (f : SweepFlight) : (s.setFlight f).link = s.link := by
  rfl
@[simp] theorem State.setFlight_params (s : State) (f : SweepFlight) : (s.setFlight f).params = s.params := by
  rfl
@[simp] theorem State.setFlight_clock (s : State) (f : SweepFlight) : (s.setFlight f).clock = s.clock := by
  rfl
@[simp] theorem State.setFlight_countUps (s : State) (f : SweepFlight) : (s.setFlight f).countUps = s.countUps := by
  rfl
@[simp] theorem State.setFlight_roll (s : State) (f : SweepFlight) : (s.setFlight f).roll = s.roll := by
  rfl
@[simp] theorem State.setFlight_cards (s : State) (f : SweepFlight) : (s.setFlight f).cards = s.cards := by
  rfl
@[simp] theorem State.setFlight_plans (s : State) (f : SweepFlight) : (s.setFlight f).plans = s.plans := by
  rfl
@[simp] theorem State.setFlight_running (s : State) (f : SweepFlight) : (s.setFlight f).running = s.running := by
  rfl
@[simp] theorem State.setFlight_ring (s : State) (f : SweepFlight) : (s.setFlight f).ring = s.ring := by
  rfl
@[simp] theorem State.setFlight_desk (s : State) (f : SweepFlight) : (s.setFlight f).desk = s.desk := by
  rfl
@[simp] theorem State.setFlight_arrivals (s : State) (f : SweepFlight) : (s.setFlight f).arrivals = s.arrivals := by
  rfl
@[simp] theorem State.setFlight_book (s : State) (f : SweepFlight) : (s.setFlight f).book = s.book := by
  rfl
@[simp] theorem State.setFlight_notices (s : State) (f : SweepFlight) : (s.setFlight f).notices = s.notices := by
  rfl
@[simp] theorem State.setFlight_days (s : State) (f : SweepFlight) : (s.setFlight f).days = s.days := by
  rfl

/-! `State.afterApplied`: the book, the notices and the pending classes change -/

@[simp] theorem State.afterApplied_pending (s : State) (i : Nat) (p : Pupil) (k : Session) (q : Proposal) : (s.afterApplied i p k q).pending = s.pending := by
  unfold State.afterApplied; (repeat' split) <;> simp
@[simp] theorem State.afterApplied_power (s : State) (i : Nat) (p : Pupil) (k : Session) (q : Proposal) : (s.afterApplied i p k q).power = s.power := by
  unfold State.afterApplied; (repeat' split) <;> simp
@[simp] theorem State.afterApplied_params (s : State) (i : Nat) (p : Pupil) (k : Session) (q : Proposal) : (s.afterApplied i p k q).params = s.params := by
  unfold State.afterApplied; (repeat' split) <;> simp
@[simp] theorem State.afterApplied_clock (s : State) (i : Nat) (p : Pupil) (k : Session) (q : Proposal) : (s.afterApplied i p k q).clock = s.clock := by
  unfold State.afterApplied; (repeat' split) <;> simp
@[simp] theorem State.afterApplied_countUps (s : State) (i : Nat) (p : Pupil) (k : Session) (q : Proposal) : (s.afterApplied i p k q).countUps = s.countUps := by
  unfold State.afterApplied; (repeat' split) <;> simp
@[simp] theorem State.afterApplied_roll (s : State) (i : Nat) (p : Pupil) (k : Session) (q : Proposal) : (s.afterApplied i p k q).roll = s.roll := by
  unfold State.afterApplied; (repeat' split) <;> simp
@[simp] theorem State.afterApplied_cards (s : State) (i : Nat) (p : Pupil) (k : Session) (q : Proposal) : (s.afterApplied i p k q).cards = s.cards := by
  unfold State.afterApplied; (repeat' split) <;> simp
@[simp] theorem State.afterApplied_plans (s : State) (i : Nat) (p : Pupil) (k : Session) (q : Proposal) : (s.afterApplied i p k q).plans = s.plans := by
  unfold State.afterApplied; (repeat' split) <;> simp
@[simp] theorem State.afterApplied_running (s : State) (i : Nat) (p : Pupil) (k : Session) (q : Proposal) : (s.afterApplied i p k q).running = s.running := by
  unfold State.afterApplied; (repeat' split) <;> simp
@[simp] theorem State.afterApplied_ring (s : State) (i : Nat) (p : Pupil) (k : Session) (q : Proposal) : (s.afterApplied i p k q).ring = s.ring := by
  unfold State.afterApplied; (repeat' split) <;> simp
@[simp] theorem State.afterApplied_desk (s : State) (i : Nat) (p : Pupil) (k : Session) (q : Proposal) : (s.afterApplied i p k q).desk = s.desk := by
  unfold State.afterApplied; (repeat' split) <;> simp
@[simp] theorem State.afterApplied_arrivals (s : State) (i : Nat) (p : Pupil) (k : Session) (q : Proposal) : (s.afterApplied i p k q).arrivals = s.arrivals := by
  unfold State.afterApplied; (repeat' split) <;> simp
@[simp] theorem State.afterApplied_sweep (s : State) (i : Nat) (p : Pupil) (k : Session) (q : Proposal) : (s.afterApplied i p k q).sweep = s.sweep := by
  unfold State.afterApplied; (repeat' split) <;> simp
@[simp] theorem State.afterApplied_days (s : State) (i : Nat) (p : Pupil) (k : Session) (q : Proposal) : (s.afterApplied i p k q).days = s.days := by
  unfold State.afterApplied; (repeat' split) <;> simp

/-! `State.reachPupil`: the roll, the book, the notices and the pending classes change -/

@[simp] theorem State.reachPupil_pending (s : State) (i : Nat) (p : Pupil) (k : Session) : (s.reachPupil i p k).pending = s.pending := by
  unfold State.reachPupil; (repeat' split) <;> simp
@[simp] theorem State.reachPupil_power (s : State) (i : Nat) (p : Pupil) (k : Session) : (s.reachPupil i p k).power = s.power := by
  unfold State.reachPupil; (repeat' split) <;> simp
@[simp] theorem State.reachPupil_params (s : State) (i : Nat) (p : Pupil) (k : Session) : (s.reachPupil i p k).params = s.params := by
  unfold State.reachPupil; (repeat' split) <;> simp
@[simp] theorem State.reachPupil_clock (s : State) (i : Nat) (p : Pupil) (k : Session) : (s.reachPupil i p k).clock = s.clock := by
  unfold State.reachPupil; (repeat' split) <;> simp
@[simp] theorem State.reachPupil_countUps (s : State) (i : Nat) (p : Pupil) (k : Session) : (s.reachPupil i p k).countUps = s.countUps := by
  unfold State.reachPupil; (repeat' split) <;> simp
@[simp] theorem State.reachPupil_cards (s : State) (i : Nat) (p : Pupil) (k : Session) : (s.reachPupil i p k).cards = s.cards := by
  unfold State.reachPupil; (repeat' split) <;> simp
@[simp] theorem State.reachPupil_plans (s : State) (i : Nat) (p : Pupil) (k : Session) : (s.reachPupil i p k).plans = s.plans := by
  unfold State.reachPupil; (repeat' split) <;> simp
@[simp] theorem State.reachPupil_running (s : State) (i : Nat) (p : Pupil) (k : Session) : (s.reachPupil i p k).running = s.running := by
  unfold State.reachPupil; (repeat' split) <;> simp
@[simp] theorem State.reachPupil_ring (s : State) (i : Nat) (p : Pupil) (k : Session) : (s.reachPupil i p k).ring = s.ring := by
  unfold State.reachPupil; (repeat' split) <;> simp
@[simp] theorem State.reachPupil_desk (s : State) (i : Nat) (p : Pupil) (k : Session) : (s.reachPupil i p k).desk = s.desk := by
  unfold State.reachPupil; (repeat' split) <;> simp
@[simp] theorem State.reachPupil_arrivals (s : State) (i : Nat) (p : Pupil) (k : Session) : (s.reachPupil i p k).arrivals = s.arrivals := by
  unfold State.reachPupil; (repeat' split) <;> simp
@[simp] theorem State.reachPupil_sweep (s : State) (i : Nat) (p : Pupil) (k : Session) : (s.reachPupil i p k).sweep = s.sweep := by
  unfold State.reachPupil; (repeat' split) <;> simp
@[simp] theorem State.reachPupil_days (s : State) (i : Nat) (p : Pupil) (k : Session) : (s.reachPupil i p k).days = s.days := by
  unfold State.reachPupil; (repeat' split) <;> simp

/-! `State.visit`: the roll, the book, the notices, the pending classes and the sweep change -/

@[simp] theorem State.visit_pending (s : State) (f : SweepFlight) : (s.visit f).pending = s.pending := by
  unfold State.visit; (repeat' split) <;> simp
@[simp] theorem State.visit_power (s : State) (f : SweepFlight) : (s.visit f).power = s.power := by
  unfold State.visit; (repeat' split) <;> simp
@[simp] theorem State.visit_params (s : State) (f : SweepFlight) : (s.visit f).params = s.params := by
  unfold State.visit; (repeat' split) <;> simp
@[simp] theorem State.visit_clock (s : State) (f : SweepFlight) : (s.visit f).clock = s.clock := by
  unfold State.visit; (repeat' split) <;> simp
@[simp] theorem State.visit_countUps (s : State) (f : SweepFlight) : (s.visit f).countUps = s.countUps := by
  unfold State.visit; (repeat' split) <;> simp
@[simp] theorem State.visit_cards (s : State) (f : SweepFlight) : (s.visit f).cards = s.cards := by
  unfold State.visit; (repeat' split) <;> simp
@[simp] theorem State.visit_plans (s : State) (f : SweepFlight) : (s.visit f).plans = s.plans := by
  unfold State.visit; (repeat' split) <;> simp
@[simp] theorem State.visit_running (s : State) (f : SweepFlight) : (s.visit f).running = s.running := by
  unfold State.visit; (repeat' split) <;> simp
@[simp] theorem State.visit_ring (s : State) (f : SweepFlight) : (s.visit f).ring = s.ring := by
  unfold State.visit; (repeat' split) <;> simp
@[simp] theorem State.visit_desk (s : State) (f : SweepFlight) : (s.visit f).desk = s.desk := by
  unfold State.visit; (repeat' split) <;> simp
@[simp] theorem State.visit_arrivals (s : State) (f : SweepFlight) : (s.visit f).arrivals = s.arrivals := by
  unfold State.visit; (repeat' split) <;> simp
@[simp] theorem State.visit_days (s : State) (f : SweepFlight) : (s.visit f).days = s.days := by
  unfold State.visit; (repeat' split) <;> simp

/-! `State.requestSweep`: only the sweep queue changes -/

@[simp] theorem State.requestSweep_pending (s : State) (t : Track) (k : EntryKind) : (s.requestSweep t k).pending = s.pending := by
  unfold State.requestSweep; (repeat' split) <;> simp
@[simp] theorem State.requestSweep_power (s : State) (t : Track) (k : EntryKind) : (s.requestSweep t k).power = s.power := by
  unfold State.requestSweep; (repeat' split) <;> simp
@[simp] theorem State.requestSweep_link (s : State) (t : Track) (k : EntryKind) : (s.requestSweep t k).link = s.link := by
  unfold State.requestSweep; (repeat' split) <;> simp
@[simp] theorem State.requestSweep_params (s : State) (t : Track) (k : EntryKind) : (s.requestSweep t k).params = s.params := by
  unfold State.requestSweep; (repeat' split) <;> simp
@[simp] theorem State.requestSweep_clock (s : State) (t : Track) (k : EntryKind) : (s.requestSweep t k).clock = s.clock := by
  unfold State.requestSweep; (repeat' split) <;> simp
@[simp] theorem State.requestSweep_countUps (s : State) (t : Track) (k : EntryKind) : (s.requestSweep t k).countUps = s.countUps := by
  unfold State.requestSweep; (repeat' split) <;> simp
@[simp] theorem State.requestSweep_roll (s : State) (t : Track) (k : EntryKind) : (s.requestSweep t k).roll = s.roll := by
  unfold State.requestSweep; (repeat' split) <;> simp
@[simp] theorem State.requestSweep_cards (s : State) (t : Track) (k : EntryKind) : (s.requestSweep t k).cards = s.cards := by
  unfold State.requestSweep; (repeat' split) <;> simp
@[simp] theorem State.requestSweep_plans (s : State) (t : Track) (k : EntryKind) : (s.requestSweep t k).plans = s.plans := by
  unfold State.requestSweep; (repeat' split) <;> simp
@[simp] theorem State.requestSweep_running (s : State) (t : Track) (k : EntryKind) : (s.requestSweep t k).running = s.running := by
  unfold State.requestSweep; (repeat' split) <;> simp
@[simp] theorem State.requestSweep_ring (s : State) (t : Track) (k : EntryKind) : (s.requestSweep t k).ring = s.ring := by
  unfold State.requestSweep; (repeat' split) <;> simp
@[simp] theorem State.requestSweep_desk (s : State) (t : Track) (k : EntryKind) : (s.requestSweep t k).desk = s.desk := by
  unfold State.requestSweep; (repeat' split) <;> simp
@[simp] theorem State.requestSweep_arrivals (s : State) (t : Track) (k : EntryKind) : (s.requestSweep t k).arrivals = s.arrivals := by
  unfold State.requestSweep; (repeat' split) <;> simp
@[simp] theorem State.requestSweep_book (s : State) (t : Track) (k : EntryKind) : (s.requestSweep t k).book = s.book := by
  unfold State.requestSweep; (repeat' split) <;> simp
@[simp] theorem State.requestSweep_notices (s : State) (t : Track) (k : EntryKind) : (s.requestSweep t k).notices = s.notices := by
  unfold State.requestSweep; (repeat' split) <;> simp
@[simp] theorem State.requestSweep_days (s : State) (t : Track) (k : EntryKind) : (s.requestSweep t k).days = s.days := by
  unfold State.requestSweep; (repeat' split) <;> simp

/-! `State.raiseRingIf`: only the pending classes change -/

@[simp] theorem State.raiseRingIf_pending (s : State) (c : Bool) : (s.raiseRingIf c).pending = s.pending := by
  unfold State.raiseRingIf; (repeat' split) <;> simp
@[simp] theorem State.raiseRingIf_power (s : State) (c : Bool) : (s.raiseRingIf c).power = s.power := by
  unfold State.raiseRingIf; (repeat' split) <;> simp
@[simp] theorem State.raiseRingIf_params (s : State) (c : Bool) : (s.raiseRingIf c).params = s.params := by
  unfold State.raiseRingIf; (repeat' split) <;> simp
@[simp] theorem State.raiseRingIf_clock (s : State) (c : Bool) : (s.raiseRingIf c).clock = s.clock := by
  unfold State.raiseRingIf; (repeat' split) <;> simp
@[simp] theorem State.raiseRingIf_countUps (s : State) (c : Bool) : (s.raiseRingIf c).countUps = s.countUps := by
  unfold State.raiseRingIf; (repeat' split) <;> simp
@[simp] theorem State.raiseRingIf_roll (s : State) (c : Bool) : (s.raiseRingIf c).roll = s.roll := by
  unfold State.raiseRingIf; (repeat' split) <;> simp
@[simp] theorem State.raiseRingIf_cards (s : State) (c : Bool) : (s.raiseRingIf c).cards = s.cards := by
  unfold State.raiseRingIf; (repeat' split) <;> simp
@[simp] theorem State.raiseRingIf_plans (s : State) (c : Bool) : (s.raiseRingIf c).plans = s.plans := by
  unfold State.raiseRingIf; (repeat' split) <;> simp
@[simp] theorem State.raiseRingIf_running (s : State) (c : Bool) : (s.raiseRingIf c).running = s.running := by
  unfold State.raiseRingIf; (repeat' split) <;> simp
@[simp] theorem State.raiseRingIf_ring (s : State) (c : Bool) : (s.raiseRingIf c).ring = s.ring := by
  unfold State.raiseRingIf; (repeat' split) <;> simp
@[simp] theorem State.raiseRingIf_desk (s : State) (c : Bool) : (s.raiseRingIf c).desk = s.desk := by
  unfold State.raiseRingIf; (repeat' split) <;> simp
@[simp] theorem State.raiseRingIf_arrivals (s : State) (c : Bool) : (s.raiseRingIf c).arrivals = s.arrivals := by
  unfold State.raiseRingIf; (repeat' split) <;> simp
@[simp] theorem State.raiseRingIf_sweep (s : State) (c : Bool) : (s.raiseRingIf c).sweep = s.sweep := by
  unfold State.raiseRingIf; (repeat' split) <;> simp
@[simp] theorem State.raiseRingIf_book (s : State) (c : Bool) : (s.raiseRingIf c).book = s.book := by
  unfold State.raiseRingIf; (repeat' split) <;> simp
@[simp] theorem State.raiseRingIf_notices (s : State) (c : Bool) : (s.raiseRingIf c).notices = s.notices := by
  unfold State.raiseRingIf; (repeat' split) <;> simp
@[simp] theorem State.raiseRingIf_days (s : State) (c : Bool) : (s.raiseRingIf c).days = s.days := by
  unfold State.raiseRingIf; (repeat' split) <;> simp

/-! `State.rearmTrack`: only the running plans change -/

@[simp] theorem State.rearmTrack_pending (s : State) (n : Nat) (t : Track) : (s.rearmTrack n t).pending = s.pending := by
  rfl
@[simp] theorem State.rearmTrack_power (s : State) (n : Nat) (t : Track) : (s.rearmTrack n t).power = s.power := by
  rfl
@[simp] theorem State.rearmTrack_link (s : State) (n : Nat) (t : Track) : (s.rearmTrack n t).link = s.link := by
  rfl
@[simp] theorem State.rearmTrack_params (s : State) (n : Nat) (t : Track) : (s.rearmTrack n t).params = s.params := by
  rfl
@[simp] theorem State.rearmTrack_clock (s : State) (n : Nat) (t : Track) : (s.rearmTrack n t).clock = s.clock := by
  rfl
@[simp] theorem State.rearmTrack_countUps (s : State) (n : Nat) (t : Track) : (s.rearmTrack n t).countUps = s.countUps := by
  rfl
@[simp] theorem State.rearmTrack_roll (s : State) (n : Nat) (t : Track) : (s.rearmTrack n t).roll = s.roll := by
  rfl
@[simp] theorem State.rearmTrack_cards (s : State) (n : Nat) (t : Track) : (s.rearmTrack n t).cards = s.cards := by
  rfl
@[simp] theorem State.rearmTrack_plans (s : State) (n : Nat) (t : Track) : (s.rearmTrack n t).plans = s.plans := by
  rfl
@[simp] theorem State.rearmTrack_ring (s : State) (n : Nat) (t : Track) : (s.rearmTrack n t).ring = s.ring := by
  rfl
@[simp] theorem State.rearmTrack_desk (s : State) (n : Nat) (t : Track) : (s.rearmTrack n t).desk = s.desk := by
  rfl
@[simp] theorem State.rearmTrack_arrivals (s : State) (n : Nat) (t : Track) : (s.rearmTrack n t).arrivals = s.arrivals := by
  rfl
@[simp] theorem State.rearmTrack_sweep (s : State) (n : Nat) (t : Track) : (s.rearmTrack n t).sweep = s.sweep := by
  rfl
@[simp] theorem State.rearmTrack_book (s : State) (n : Nat) (t : Track) : (s.rearmTrack n t).book = s.book := by
  rfl
@[simp] theorem State.rearmTrack_notices (s : State) (n : Nat) (t : Track) : (s.rearmTrack n t).notices = s.notices := by
  rfl
@[simp] theorem State.rearmTrack_days (s : State) (n : Nat) (t : Track) : (s.rearmTrack n t).days = s.days := by
  rfl

/-! `State.clockStep`: only the running plans change -/

@[simp] theorem State.clockStep_pending (s : State) (a b : Nat) : (s.clockStep a b).pending = s.pending := by
  unfold State.clockStep; split <;> simp [allTracks]
@[simp] theorem State.clockStep_power (s : State) (a b : Nat) : (s.clockStep a b).power = s.power := by
  unfold State.clockStep; split <;> simp [allTracks]
@[simp] theorem State.clockStep_link (s : State) (a b : Nat) : (s.clockStep a b).link = s.link := by
  unfold State.clockStep; split <;> simp [allTracks]
@[simp] theorem State.clockStep_params (s : State) (a b : Nat) : (s.clockStep a b).params = s.params := by
  unfold State.clockStep; split <;> simp [allTracks]
@[simp] theorem State.clockStep_clock (s : State) (a b : Nat) : (s.clockStep a b).clock = s.clock := by
  unfold State.clockStep; split <;> simp [allTracks]
@[simp] theorem State.clockStep_countUps (s : State) (a b : Nat) : (s.clockStep a b).countUps = s.countUps := by
  unfold State.clockStep; split <;> simp [allTracks]
@[simp] theorem State.clockStep_roll (s : State) (a b : Nat) : (s.clockStep a b).roll = s.roll := by
  unfold State.clockStep; split <;> simp [allTracks]
@[simp] theorem State.clockStep_cards (s : State) (a b : Nat) : (s.clockStep a b).cards = s.cards := by
  unfold State.clockStep; split <;> simp [allTracks]
@[simp] theorem State.clockStep_plans (s : State) (a b : Nat) : (s.clockStep a b).plans = s.plans := by
  unfold State.clockStep; split <;> simp [allTracks]
@[simp] theorem State.clockStep_ring (s : State) (a b : Nat) : (s.clockStep a b).ring = s.ring := by
  unfold State.clockStep; split <;> simp [allTracks]
@[simp] theorem State.clockStep_desk (s : State) (a b : Nat) : (s.clockStep a b).desk = s.desk := by
  unfold State.clockStep; split <;> simp [allTracks]
@[simp] theorem State.clockStep_arrivals (s : State) (a b : Nat) : (s.clockStep a b).arrivals = s.arrivals := by
  unfold State.clockStep; split <;> simp [allTracks]
@[simp] theorem State.clockStep_sweep (s : State) (a b : Nat) : (s.clockStep a b).sweep = s.sweep := by
  unfold State.clockStep; split <;> simp [allTracks]
@[simp] theorem State.clockStep_book (s : State) (a b : Nat) : (s.clockStep a b).book = s.book := by
  unfold State.clockStep; split <;> simp [allTracks]
@[simp] theorem State.clockStep_notices (s : State) (a b : Nat) : (s.clockStep a b).notices = s.notices := by
  unfold State.clockStep; split <;> simp [allTracks]
@[simp] theorem State.clockStep_days (s : State) (a b : Nat) : (s.clockStep a b).days = s.days := by
  unfold State.clockStep; split <;> simp [allTracks]

/-! `State.setRollover`: only the rollover record changes -/

@[simp] theorem State.setRollover_pending (s : State) (r : Option Rollover) : (s.setRollover r).pending = s.pending := by
  rfl
@[simp] theorem State.setRollover_power (s : State) (r : Option Rollover) : (s.setRollover r).power = s.power := by
  rfl
@[simp] theorem State.setRollover_link (s : State) (r : Option Rollover) : (s.setRollover r).link = s.link := by
  rfl
@[simp] theorem State.setRollover_params (s : State) (r : Option Rollover) : (s.setRollover r).params = s.params := by
  rfl
@[simp] theorem State.setRollover_clock (s : State) (r : Option Rollover) : (s.setRollover r).clock = s.clock := by
  rfl
@[simp] theorem State.setRollover_countUps (s : State) (r : Option Rollover) : (s.setRollover r).countUps = s.countUps := by
  rfl
@[simp] theorem State.setRollover_roll (s : State) (r : Option Rollover) : (s.setRollover r).roll = s.roll := by
  rfl
@[simp] theorem State.setRollover_cards (s : State) (r : Option Rollover) : (s.setRollover r).cards = s.cards := by
  rfl
@[simp] theorem State.setRollover_plans (s : State) (r : Option Rollover) : (s.setRollover r).plans = s.plans := by
  rfl
@[simp] theorem State.setRollover_running (s : State) (r : Option Rollover) : (s.setRollover r).running = s.running := by
  rfl
@[simp] theorem State.setRollover_ring (s : State) (r : Option Rollover) : (s.setRollover r).ring = s.ring := by
  rfl
@[simp] theorem State.setRollover_desk (s : State) (r : Option Rollover) : (s.setRollover r).desk = s.desk := by
  rfl
@[simp] theorem State.setRollover_arrivals (s : State) (r : Option Rollover) : (s.setRollover r).arrivals = s.arrivals := by
  rfl
@[simp] theorem State.setRollover_sweep (s : State) (r : Option Rollover) : (s.setRollover r).sweep = s.sweep := by
  rfl
@[simp] theorem State.setRollover_book (s : State) (r : Option Rollover) : (s.setRollover r).book = s.book := by
  rfl
@[simp] theorem State.setRollover_notices (s : State) (r : Option Rollover) : (s.setRollover r).notices = s.notices := by
  rfl

/-! `State.judgeStage1`: only the rollover record changes -/

@[simp] theorem State.judgeStage1_pending (s : State) : (s.judgeStage1).pending = s.pending := by
  unfold State.judgeStage1; (repeat' split) <;> simp
@[simp] theorem State.judgeStage1_power (s : State) : (s.judgeStage1).power = s.power := by
  unfold State.judgeStage1; (repeat' split) <;> simp
@[simp] theorem State.judgeStage1_link (s : State) : (s.judgeStage1).link = s.link := by
  unfold State.judgeStage1; (repeat' split) <;> simp
@[simp] theorem State.judgeStage1_params (s : State) : (s.judgeStage1).params = s.params := by
  unfold State.judgeStage1; (repeat' split) <;> simp
@[simp] theorem State.judgeStage1_clock (s : State) : (s.judgeStage1).clock = s.clock := by
  unfold State.judgeStage1; (repeat' split) <;> simp
@[simp] theorem State.judgeStage1_countUps (s : State) : (s.judgeStage1).countUps = s.countUps := by
  unfold State.judgeStage1; (repeat' split) <;> simp
@[simp] theorem State.judgeStage1_roll (s : State) : (s.judgeStage1).roll = s.roll := by
  unfold State.judgeStage1; (repeat' split) <;> simp
@[simp] theorem State.judgeStage1_cards (s : State) : (s.judgeStage1).cards = s.cards := by
  unfold State.judgeStage1; (repeat' split) <;> simp
@[simp] theorem State.judgeStage1_plans (s : State) : (s.judgeStage1).plans = s.plans := by
  unfold State.judgeStage1; (repeat' split) <;> simp
@[simp] theorem State.judgeStage1_running (s : State) : (s.judgeStage1).running = s.running := by
  unfold State.judgeStage1; (repeat' split) <;> simp
@[simp] theorem State.judgeStage1_ring (s : State) : (s.judgeStage1).ring = s.ring := by
  unfold State.judgeStage1; (repeat' split) <;> simp
@[simp] theorem State.judgeStage1_desk (s : State) : (s.judgeStage1).desk = s.desk := by
  unfold State.judgeStage1; (repeat' split) <;> simp
@[simp] theorem State.judgeStage1_arrivals (s : State) : (s.judgeStage1).arrivals = s.arrivals := by
  unfold State.judgeStage1; (repeat' split) <;> simp
@[simp] theorem State.judgeStage1_sweep (s : State) : (s.judgeStage1).sweep = s.sweep := by
  unfold State.judgeStage1; (repeat' split) <;> simp
@[simp] theorem State.judgeStage1_book (s : State) : (s.judgeStage1).book = s.book := by
  unfold State.judgeStage1; (repeat' split) <;> simp
@[simp] theorem State.judgeStage1_notices (s : State) : (s.judgeStage1).notices = s.notices := by
  unfold State.judgeStage1; (repeat' split) <;> simp

/-! `State.startRollover`: only the rollover record changes -/

@[simp] theorem State.startRollover_pending (s : State) (n : Nat) : (s.startRollover n).pending = s.pending := by
  simp [State.startRollover]
@[simp] theorem State.startRollover_power (s : State) (n : Nat) : (s.startRollover n).power = s.power := by
  simp [State.startRollover]
@[simp] theorem State.startRollover_link (s : State) (n : Nat) : (s.startRollover n).link = s.link := by
  simp [State.startRollover]
@[simp] theorem State.startRollover_params (s : State) (n : Nat) : (s.startRollover n).params = s.params := by
  simp [State.startRollover]
@[simp] theorem State.startRollover_clock (s : State) (n : Nat) : (s.startRollover n).clock = s.clock := by
  simp [State.startRollover]
@[simp] theorem State.startRollover_countUps (s : State) (n : Nat) : (s.startRollover n).countUps = s.countUps := by
  simp [State.startRollover]
@[simp] theorem State.startRollover_roll (s : State) (n : Nat) : (s.startRollover n).roll = s.roll := by
  simp [State.startRollover]
@[simp] theorem State.startRollover_cards (s : State) (n : Nat) : (s.startRollover n).cards = s.cards := by
  simp [State.startRollover]
@[simp] theorem State.startRollover_plans (s : State) (n : Nat) : (s.startRollover n).plans = s.plans := by
  simp [State.startRollover]
@[simp] theorem State.startRollover_running (s : State) (n : Nat) : (s.startRollover n).running = s.running := by
  simp [State.startRollover]
@[simp] theorem State.startRollover_ring (s : State) (n : Nat) : (s.startRollover n).ring = s.ring := by
  simp [State.startRollover]
@[simp] theorem State.startRollover_desk (s : State) (n : Nat) : (s.startRollover n).desk = s.desk := by
  simp [State.startRollover]
@[simp] theorem State.startRollover_arrivals (s : State) (n : Nat) : (s.startRollover n).arrivals = s.arrivals := by
  simp [State.startRollover]
@[simp] theorem State.startRollover_sweep (s : State) (n : Nat) : (s.startRollover n).sweep = s.sweep := by
  simp [State.startRollover]
@[simp] theorem State.startRollover_book (s : State) (n : Nat) : (s.startRollover n).book = s.book := by
  simp [State.startRollover]
@[simp] theorem State.startRollover_notices (s : State) (n : Nat) : (s.startRollover n).notices = s.notices := by
  simp [State.startRollover]

/-! `State.dateChange`: only the rollover record changes -/

@[simp] theorem State.dateChange_pending (s : State) (n : Nat) : (s.dateChange n).pending = s.pending := by
  unfold State.dateChange; (repeat' split) <;> simp
@[simp] theorem State.dateChange_power (s : State) (n : Nat) : (s.dateChange n).power = s.power := by
  unfold State.dateChange; (repeat' split) <;> simp
@[simp] theorem State.dateChange_link (s : State) (n : Nat) : (s.dateChange n).link = s.link := by
  unfold State.dateChange; (repeat' split) <;> simp
@[simp] theorem State.dateChange_params (s : State) (n : Nat) : (s.dateChange n).params = s.params := by
  unfold State.dateChange; (repeat' split) <;> simp
@[simp] theorem State.dateChange_clock (s : State) (n : Nat) : (s.dateChange n).clock = s.clock := by
  unfold State.dateChange; (repeat' split) <;> simp
@[simp] theorem State.dateChange_countUps (s : State) (n : Nat) : (s.dateChange n).countUps = s.countUps := by
  unfold State.dateChange; (repeat' split) <;> simp
@[simp] theorem State.dateChange_roll (s : State) (n : Nat) : (s.dateChange n).roll = s.roll := by
  unfold State.dateChange; (repeat' split) <;> simp
@[simp] theorem State.dateChange_cards (s : State) (n : Nat) : (s.dateChange n).cards = s.cards := by
  unfold State.dateChange; (repeat' split) <;> simp
@[simp] theorem State.dateChange_plans (s : State) (n : Nat) : (s.dateChange n).plans = s.plans := by
  unfold State.dateChange; (repeat' split) <;> simp
@[simp] theorem State.dateChange_running (s : State) (n : Nat) : (s.dateChange n).running = s.running := by
  unfold State.dateChange; (repeat' split) <;> simp
@[simp] theorem State.dateChange_ring (s : State) (n : Nat) : (s.dateChange n).ring = s.ring := by
  unfold State.dateChange; (repeat' split) <;> simp
@[simp] theorem State.dateChange_desk (s : State) (n : Nat) : (s.dateChange n).desk = s.desk := by
  unfold State.dateChange; (repeat' split) <;> simp
@[simp] theorem State.dateChange_arrivals (s : State) (n : Nat) : (s.dateChange n).arrivals = s.arrivals := by
  unfold State.dateChange; (repeat' split) <;> simp
@[simp] theorem State.dateChange_sweep (s : State) (n : Nat) : (s.dateChange n).sweep = s.sweep := by
  unfold State.dateChange; (repeat' split) <;> simp
@[simp] theorem State.dateChange_book (s : State) (n : Nat) : (s.dateChange n).book = s.book := by
  unfold State.dateChange; (repeat' split) <;> simp
@[simp] theorem State.dateChange_notices (s : State) (n : Nat) : (s.dateChange n).notices = s.notices := by
  unfold State.dateChange; (repeat' split) <;> simp

/-! `State.handOn`: only the count-ups handed on change -/

@[simp] theorem State.handOn_pending (s : State) : (s.handOn).pending = s.pending := by
  rfl
@[simp] theorem State.handOn_power (s : State) : (s.handOn).power = s.power := by
  rfl
@[simp] theorem State.handOn_link (s : State) : (s.handOn).link = s.link := by
  rfl
@[simp] theorem State.handOn_params (s : State) : (s.handOn).params = s.params := by
  rfl
@[simp] theorem State.handOn_clock (s : State) : (s.handOn).clock = s.clock := by
  rfl
@[simp] theorem State.handOn_roll (s : State) : (s.handOn).roll = s.roll := by
  rfl
@[simp] theorem State.handOn_cards (s : State) : (s.handOn).cards = s.cards := by
  rfl
@[simp] theorem State.handOn_plans (s : State) : (s.handOn).plans = s.plans := by
  rfl
@[simp] theorem State.handOn_running (s : State) : (s.handOn).running = s.running := by
  rfl
@[simp] theorem State.handOn_ring (s : State) : (s.handOn).ring = s.ring := by
  rfl
@[simp] theorem State.handOn_desk (s : State) : (s.handOn).desk = s.desk := by
  rfl
@[simp] theorem State.handOn_arrivals (s : State) : (s.handOn).arrivals = s.arrivals := by
  rfl
@[simp] theorem State.handOn_sweep (s : State) : (s.handOn).sweep = s.sweep := by
  rfl
@[simp] theorem State.handOn_book (s : State) : (s.handOn).book = s.book := by
  rfl
@[simp] theorem State.handOn_notices (s : State) : (s.handOn).notices = s.notices := by
  rfl
@[simp] theorem State.handOn_days (s : State) : (s.handOn).days = s.days := by
  rfl

/-! `State.takeDateChange`: only the rollover record changes -/

@[simp] theorem State.takeDateChange_pending (s : State) (c : Bool) : (s.takeDateChange c).pending = s.pending := by
  unfold State.takeDateChange; (repeat' split) <;> simp
@[simp] theorem State.takeDateChange_power (s : State) (c : Bool) : (s.takeDateChange c).power = s.power := by
  unfold State.takeDateChange; (repeat' split) <;> simp
@[simp] theorem State.takeDateChange_link (s : State) (c : Bool) : (s.takeDateChange c).link = s.link := by
  unfold State.takeDateChange; (repeat' split) <;> simp
@[simp] theorem State.takeDateChange_params (s : State) (c : Bool) : (s.takeDateChange c).params = s.params := by
  unfold State.takeDateChange; (repeat' split) <;> simp
@[simp] theorem State.takeDateChange_clock (s : State) (c : Bool) : (s.takeDateChange c).clock = s.clock := by
  unfold State.takeDateChange; (repeat' split) <;> simp
@[simp] theorem State.takeDateChange_countUps (s : State) (c : Bool) : (s.takeDateChange c).countUps = s.countUps := by
  unfold State.takeDateChange; (repeat' split) <;> simp
@[simp] theorem State.takeDateChange_roll (s : State) (c : Bool) : (s.takeDateChange c).roll = s.roll := by
  unfold State.takeDateChange; (repeat' split) <;> simp
@[simp] theorem State.takeDateChange_cards (s : State) (c : Bool) : (s.takeDateChange c).cards = s.cards := by
  unfold State.takeDateChange; (repeat' split) <;> simp
@[simp] theorem State.takeDateChange_plans (s : State) (c : Bool) : (s.takeDateChange c).plans = s.plans := by
  unfold State.takeDateChange; (repeat' split) <;> simp
@[simp] theorem State.takeDateChange_running (s : State) (c : Bool) : (s.takeDateChange c).running = s.running := by
  unfold State.takeDateChange; (repeat' split) <;> simp
@[simp] theorem State.takeDateChange_ring (s : State) (c : Bool) : (s.takeDateChange c).ring = s.ring := by
  unfold State.takeDateChange; (repeat' split) <;> simp
@[simp] theorem State.takeDateChange_desk (s : State) (c : Bool) : (s.takeDateChange c).desk = s.desk := by
  unfold State.takeDateChange; (repeat' split) <;> simp
@[simp] theorem State.takeDateChange_arrivals (s : State) (c : Bool) : (s.takeDateChange c).arrivals = s.arrivals := by
  unfold State.takeDateChange; (repeat' split) <;> simp
@[simp] theorem State.takeDateChange_sweep (s : State) (c : Bool) : (s.takeDateChange c).sweep = s.sweep := by
  unfold State.takeDateChange; (repeat' split) <;> simp
@[simp] theorem State.takeDateChange_book (s : State) (c : Bool) : (s.takeDateChange c).book = s.book := by
  unfold State.takeDateChange; (repeat' split) <;> simp
@[simp] theorem State.takeDateChange_notices (s : State) (c : Bool) : (s.takeDateChange c).notices = s.notices := by
  unfold State.takeDateChange; (repeat' split) <;> simp

/-! `State.countUp`: the clock, the count-ups handed on and the rollover record change -/

@[simp] theorem State.countUp_pending (s : State) : (s.countUp).pending = s.pending := by
  unfold State.countUp; dsimp only; (repeat' split) <;> simp
@[simp] theorem State.countUp_power (s : State) : (s.countUp).power = s.power := by
  unfold State.countUp; dsimp only; (repeat' split) <;> simp
@[simp] theorem State.countUp_link (s : State) : (s.countUp).link = s.link := by
  unfold State.countUp; dsimp only; (repeat' split) <;> simp
@[simp] theorem State.countUp_params (s : State) : (s.countUp).params = s.params := by
  unfold State.countUp; dsimp only; (repeat' split) <;> simp
@[simp] theorem State.countUp_roll (s : State) : (s.countUp).roll = s.roll := by
  unfold State.countUp; dsimp only; (repeat' split) <;> simp
@[simp] theorem State.countUp_cards (s : State) : (s.countUp).cards = s.cards := by
  unfold State.countUp; dsimp only; (repeat' split) <;> simp
@[simp] theorem State.countUp_plans (s : State) : (s.countUp).plans = s.plans := by
  unfold State.countUp; dsimp only; (repeat' split) <;> simp
@[simp] theorem State.countUp_running (s : State) : (s.countUp).running = s.running := by
  unfold State.countUp; dsimp only; (repeat' split) <;> simp
@[simp] theorem State.countUp_ring (s : State) : (s.countUp).ring = s.ring := by
  unfold State.countUp; dsimp only; (repeat' split) <;> simp
@[simp] theorem State.countUp_desk (s : State) : (s.countUp).desk = s.desk := by
  unfold State.countUp; dsimp only; (repeat' split) <;> simp
@[simp] theorem State.countUp_arrivals (s : State) : (s.countUp).arrivals = s.arrivals := by
  unfold State.countUp; dsimp only; (repeat' split) <;> simp
@[simp] theorem State.countUp_sweep (s : State) : (s.countUp).sweep = s.sweep := by
  unfold State.countUp; dsimp only; (repeat' split) <;> simp
@[simp] theorem State.countUp_book (s : State) : (s.countUp).book = s.book := by
  unfold State.countUp; dsimp only; (repeat' split) <;> simp
@[simp] theorem State.countUp_notices (s : State) : (s.countUp).notices = s.notices := by
  unfold State.countUp; dsimp only; (repeat' split) <;> simp

/-! `State.wrapTo`: the clock, the count-ups handed on and the rollover record change -/

@[simp] theorem State.wrapTo_pending (s : State) (n : Nat) : (s.wrapTo n).pending = s.pending := by
  unfold State.wrapTo; (repeat' split) <;> simp
@[simp] theorem State.wrapTo_power (s : State) (n : Nat) : (s.wrapTo n).power = s.power := by
  unfold State.wrapTo; (repeat' split) <;> simp
@[simp] theorem State.wrapTo_link (s : State) (n : Nat) : (s.wrapTo n).link = s.link := by
  unfold State.wrapTo; (repeat' split) <;> simp
@[simp] theorem State.wrapTo_params (s : State) (n : Nat) : (s.wrapTo n).params = s.params := by
  unfold State.wrapTo; (repeat' split) <;> simp
@[simp] theorem State.wrapTo_roll (s : State) (n : Nat) : (s.wrapTo n).roll = s.roll := by
  unfold State.wrapTo; (repeat' split) <;> simp
@[simp] theorem State.wrapTo_cards (s : State) (n : Nat) : (s.wrapTo n).cards = s.cards := by
  unfold State.wrapTo; (repeat' split) <;> simp
@[simp] theorem State.wrapTo_plans (s : State) (n : Nat) : (s.wrapTo n).plans = s.plans := by
  unfold State.wrapTo; (repeat' split) <;> simp
@[simp] theorem State.wrapTo_running (s : State) (n : Nat) : (s.wrapTo n).running = s.running := by
  unfold State.wrapTo; (repeat' split) <;> simp
@[simp] theorem State.wrapTo_ring (s : State) (n : Nat) : (s.wrapTo n).ring = s.ring := by
  unfold State.wrapTo; (repeat' split) <;> simp
@[simp] theorem State.wrapTo_desk (s : State) (n : Nat) : (s.wrapTo n).desk = s.desk := by
  unfold State.wrapTo; (repeat' split) <;> simp
@[simp] theorem State.wrapTo_arrivals (s : State) (n : Nat) : (s.wrapTo n).arrivals = s.arrivals := by
  unfold State.wrapTo; (repeat' split) <;> simp
@[simp] theorem State.wrapTo_sweep (s : State) (n : Nat) : (s.wrapTo n).sweep = s.sweep := by
  unfold State.wrapTo; (repeat' split) <;> simp
@[simp] theorem State.wrapTo_book (s : State) (n : Nat) : (s.wrapTo n).book = s.book := by
  unfold State.wrapTo; (repeat' split) <;> simp
@[simp] theorem State.wrapTo_notices (s : State) (n : Nat) : (s.wrapTo n).notices = s.notices := by
  unfold State.wrapTo; (repeat' split) <;> simp

/-! `State.applyTrim`: the clock, the count-ups handed on and the rollover record change -/

@[simp] theorem State.applyTrim_pending (s : State) (n : Int) : (s.applyTrim n).pending = s.pending := by
  unfold State.applyTrim; (repeat' split) <;> simp
@[simp] theorem State.applyTrim_power (s : State) (n : Int) : (s.applyTrim n).power = s.power := by
  unfold State.applyTrim; (repeat' split) <;> simp
@[simp] theorem State.applyTrim_link (s : State) (n : Int) : (s.applyTrim n).link = s.link := by
  unfold State.applyTrim; (repeat' split) <;> simp
@[simp] theorem State.applyTrim_params (s : State) (n : Int) : (s.applyTrim n).params = s.params := by
  unfold State.applyTrim; (repeat' split) <;> simp
@[simp] theorem State.applyTrim_roll (s : State) (n : Int) : (s.applyTrim n).roll = s.roll := by
  unfold State.applyTrim; (repeat' split) <;> simp
@[simp] theorem State.applyTrim_cards (s : State) (n : Int) : (s.applyTrim n).cards = s.cards := by
  unfold State.applyTrim; (repeat' split) <;> simp
@[simp] theorem State.applyTrim_plans (s : State) (n : Int) : (s.applyTrim n).plans = s.plans := by
  unfold State.applyTrim; (repeat' split) <;> simp
@[simp] theorem State.applyTrim_running (s : State) (n : Int) : (s.applyTrim n).running = s.running := by
  unfold State.applyTrim; (repeat' split) <;> simp
@[simp] theorem State.applyTrim_ring (s : State) (n : Int) : (s.applyTrim n).ring = s.ring := by
  unfold State.applyTrim; (repeat' split) <;> simp
@[simp] theorem State.applyTrim_desk (s : State) (n : Int) : (s.applyTrim n).desk = s.desk := by
  unfold State.applyTrim; (repeat' split) <;> simp
@[simp] theorem State.applyTrim_arrivals (s : State) (n : Int) : (s.applyTrim n).arrivals = s.arrivals := by
  unfold State.applyTrim; (repeat' split) <;> simp
@[simp] theorem State.applyTrim_sweep (s : State) (n : Int) : (s.applyTrim n).sweep = s.sweep := by
  unfold State.applyTrim; (repeat' split) <;> simp
@[simp] theorem State.applyTrim_book (s : State) (n : Int) : (s.applyTrim n).book = s.book := by
  unfold State.applyTrim; (repeat' split) <;> simp
@[simp] theorem State.applyTrim_notices (s : State) (n : Int) : (s.applyTrim n).notices = s.notices := by
  unfold State.applyTrim; (repeat' split) <;> simp

/-! `State.applySet`: the clock, the running plans and the rollover record change -/

@[simp] theorem State.applySet_pending (s : State) (d n : Nat) : (s.applySet d n).pending = s.pending := by
  unfold State.applySet; dsimp only; (repeat' split) <;> simp
@[simp] theorem State.applySet_power (s : State) (d n : Nat) : (s.applySet d n).power = s.power := by
  unfold State.applySet; dsimp only; (repeat' split) <;> simp
@[simp] theorem State.applySet_link (s : State) (d n : Nat) : (s.applySet d n).link = s.link := by
  unfold State.applySet; dsimp only; (repeat' split) <;> simp
@[simp] theorem State.applySet_params (s : State) (d n : Nat) : (s.applySet d n).params = s.params := by
  unfold State.applySet; dsimp only; (repeat' split) <;> simp
@[simp] theorem State.applySet_countUps (s : State) (d n : Nat) : (s.applySet d n).countUps = s.countUps := by
  unfold State.applySet; dsimp only; (repeat' split) <;> simp
@[simp] theorem State.applySet_roll (s : State) (d n : Nat) : (s.applySet d n).roll = s.roll := by
  unfold State.applySet; dsimp only; (repeat' split) <;> simp
@[simp] theorem State.applySet_cards (s : State) (d n : Nat) : (s.applySet d n).cards = s.cards := by
  unfold State.applySet; dsimp only; (repeat' split) <;> simp
@[simp] theorem State.applySet_plans (s : State) (d n : Nat) : (s.applySet d n).plans = s.plans := by
  unfold State.applySet; dsimp only; (repeat' split) <;> simp
@[simp] theorem State.applySet_ring (s : State) (d n : Nat) : (s.applySet d n).ring = s.ring := by
  unfold State.applySet; dsimp only; (repeat' split) <;> simp
@[simp] theorem State.applySet_desk (s : State) (d n : Nat) : (s.applySet d n).desk = s.desk := by
  unfold State.applySet; dsimp only; (repeat' split) <;> simp
@[simp] theorem State.applySet_arrivals (s : State) (d n : Nat) : (s.applySet d n).arrivals = s.arrivals := by
  unfold State.applySet; dsimp only; (repeat' split) <;> simp
@[simp] theorem State.applySet_sweep (s : State) (d n : Nat) : (s.applySet d n).sweep = s.sweep := by
  unfold State.applySet; dsimp only; (repeat' split) <;> simp
@[simp] theorem State.applySet_book (s : State) (d n : Nat) : (s.applySet d n).book = s.book := by
  unfold State.applySet; dsimp only; (repeat' split) <;> simp
@[simp] theorem State.applySet_notices (s : State) (d n : Nat) : (s.applySet d n).notices = s.notices := by
  unfold State.applySet; dsimp only; (repeat' split) <;> simp

/-! `State.clearEvents`: only the pending classes change -/

@[simp] theorem State.clearEvents_pending (s : State) (b : Byte) : (s.clearEvents b).pending = s.pending := by
  rfl
@[simp] theorem State.clearEvents_power (s : State) (b : Byte) : (s.clearEvents b).power = s.power := by
  rfl
@[simp] theorem State.clearEvents_params (s : State) (b : Byte) : (s.clearEvents b).params = s.params := by
  rfl
@[simp] theorem State.clearEvents_clock (s : State) (b : Byte) : (s.clearEvents b).clock = s.clock := by
  rfl
@[simp] theorem State.clearEvents_countUps (s : State) (b : Byte) : (s.clearEvents b).countUps = s.countUps := by
  rfl
@[simp] theorem State.clearEvents_roll (s : State) (b : Byte) : (s.clearEvents b).roll = s.roll := by
  rfl
@[simp] theorem State.clearEvents_cards (s : State) (b : Byte) : (s.clearEvents b).cards = s.cards := by
  rfl
@[simp] theorem State.clearEvents_plans (s : State) (b : Byte) : (s.clearEvents b).plans = s.plans := by
  rfl
@[simp] theorem State.clearEvents_running (s : State) (b : Byte) : (s.clearEvents b).running = s.running := by
  rfl
@[simp] theorem State.clearEvents_ring (s : State) (b : Byte) : (s.clearEvents b).ring = s.ring := by
  rfl
@[simp] theorem State.clearEvents_desk (s : State) (b : Byte) : (s.clearEvents b).desk = s.desk := by
  rfl
@[simp] theorem State.clearEvents_arrivals (s : State) (b : Byte) : (s.clearEvents b).arrivals = s.arrivals := by
  rfl
@[simp] theorem State.clearEvents_sweep (s : State) (b : Byte) : (s.clearEvents b).sweep = s.sweep := by
  rfl
@[simp] theorem State.clearEvents_book (s : State) (b : Byte) : (s.clearEvents b).book = s.book := by
  rfl
@[simp] theorem State.clearEvents_notices (s : State) (b : Byte) : (s.clearEvents b).notices = s.notices := by
  rfl
@[simp] theorem State.clearEvents_days (s : State) (b : Byte) : (s.clearEvents b).days = s.days := by
  rfl

/-! `State.setParam`: the parameters and the desk line change -/

@[simp] theorem State.setParam_pending (s : State) (q : Param) (n : Nat) : (s.setParam q n).pending = s.pending := by
  unfold State.setParam; (repeat' split) <;> simp
@[simp] theorem State.setParam_power (s : State) (q : Param) (n : Nat) : (s.setParam q n).power = s.power := by
  unfold State.setParam; (repeat' split) <;> simp
@[simp] theorem State.setParam_link (s : State) (q : Param) (n : Nat) : (s.setParam q n).link = s.link := by
  unfold State.setParam; (repeat' split) <;> simp
@[simp] theorem State.setParam_clock (s : State) (q : Param) (n : Nat) : (s.setParam q n).clock = s.clock := by
  unfold State.setParam; (repeat' split) <;> simp
@[simp] theorem State.setParam_countUps (s : State) (q : Param) (n : Nat) : (s.setParam q n).countUps = s.countUps := by
  unfold State.setParam; (repeat' split) <;> simp
@[simp] theorem State.setParam_roll (s : State) (q : Param) (n : Nat) : (s.setParam q n).roll = s.roll := by
  unfold State.setParam; (repeat' split) <;> simp
@[simp] theorem State.setParam_cards (s : State) (q : Param) (n : Nat) : (s.setParam q n).cards = s.cards := by
  unfold State.setParam; (repeat' split) <;> simp
@[simp] theorem State.setParam_plans (s : State) (q : Param) (n : Nat) : (s.setParam q n).plans = s.plans := by
  unfold State.setParam; (repeat' split) <;> simp
@[simp] theorem State.setParam_running (s : State) (q : Param) (n : Nat) : (s.setParam q n).running = s.running := by
  unfold State.setParam; (repeat' split) <;> simp
@[simp] theorem State.setParam_ring (s : State) (q : Param) (n : Nat) : (s.setParam q n).ring = s.ring := by
  unfold State.setParam; (repeat' split) <;> simp
@[simp] theorem State.setParam_arrivals (s : State) (q : Param) (n : Nat) : (s.setParam q n).arrivals = s.arrivals := by
  unfold State.setParam; (repeat' split) <;> simp
@[simp] theorem State.setParam_sweep (s : State) (q : Param) (n : Nat) : (s.setParam q n).sweep = s.sweep := by
  unfold State.setParam; (repeat' split) <;> simp
@[simp] theorem State.setParam_book (s : State) (q : Param) (n : Nat) : (s.setParam q n).book = s.book := by
  unfold State.setParam; (repeat' split) <;> simp
@[simp] theorem State.setParam_notices (s : State) (q : Param) (n : Nat) : (s.setParam q n).notices = s.notices := by
  unfold State.setParam; (repeat' split) <;> simp
@[simp] theorem State.setParam_days (s : State) (q : Param) (n : Nat) : (s.setParam q n).days = s.days := by
  unfold State.setParam; (repeat' split) <;> simp

/-! `State.requeue`: only the sweep queue changes -/

@[simp] theorem State.requeue_pending (s : State) (t : Track) (k : Session) : (s.requeue t k).pending = s.pending := by
  unfold State.requeue; (repeat' split) <;> simp
@[simp] theorem State.requeue_power (s : State) (t : Track) (k : Session) : (s.requeue t k).power = s.power := by
  unfold State.requeue; (repeat' split) <;> simp
@[simp] theorem State.requeue_link (s : State) (t : Track) (k : Session) : (s.requeue t k).link = s.link := by
  unfold State.requeue; (repeat' split) <;> simp
@[simp] theorem State.requeue_params (s : State) (t : Track) (k : Session) : (s.requeue t k).params = s.params := by
  unfold State.requeue; (repeat' split) <;> simp
@[simp] theorem State.requeue_clock (s : State) (t : Track) (k : Session) : (s.requeue t k).clock = s.clock := by
  unfold State.requeue; (repeat' split) <;> simp
@[simp] theorem State.requeue_countUps (s : State) (t : Track) (k : Session) : (s.requeue t k).countUps = s.countUps := by
  unfold State.requeue; (repeat' split) <;> simp
@[simp] theorem State.requeue_roll (s : State) (t : Track) (k : Session) : (s.requeue t k).roll = s.roll := by
  unfold State.requeue; (repeat' split) <;> simp
@[simp] theorem State.requeue_cards (s : State) (t : Track) (k : Session) : (s.requeue t k).cards = s.cards := by
  unfold State.requeue; (repeat' split) <;> simp
@[simp] theorem State.requeue_plans (s : State) (t : Track) (k : Session) : (s.requeue t k).plans = s.plans := by
  unfold State.requeue; (repeat' split) <;> simp
@[simp] theorem State.requeue_running (s : State) (t : Track) (k : Session) : (s.requeue t k).running = s.running := by
  unfold State.requeue; (repeat' split) <;> simp
@[simp] theorem State.requeue_ring (s : State) (t : Track) (k : Session) : (s.requeue t k).ring = s.ring := by
  unfold State.requeue; (repeat' split) <;> simp
@[simp] theorem State.requeue_desk (s : State) (t : Track) (k : Session) : (s.requeue t k).desk = s.desk := by
  unfold State.requeue; (repeat' split) <;> simp
@[simp] theorem State.requeue_arrivals (s : State) (t : Track) (k : Session) : (s.requeue t k).arrivals = s.arrivals := by
  unfold State.requeue; (repeat' split) <;> simp
@[simp] theorem State.requeue_book (s : State) (t : Track) (k : Session) : (s.requeue t k).book = s.book := by
  unfold State.requeue; (repeat' split) <;> simp
@[simp] theorem State.requeue_notices (s : State) (t : Track) (k : Session) : (s.requeue t k).notices = s.notices := by
  unfold State.requeue; (repeat' split) <;> simp
@[simp] theorem State.requeue_days (s : State) (t : Track) (k : Session) : (s.requeue t k).days = s.days := by
  unfold State.requeue; (repeat' split) <;> simp

/-! `State.requeueAll`: only the sweep queue changes -/

@[simp] theorem State.requeueAll_pending (s : State) : (s.requeueAll).pending = s.pending := by
  simp [State.requeueAll, allTracks]
@[simp] theorem State.requeueAll_power (s : State) : (s.requeueAll).power = s.power := by
  simp [State.requeueAll, allTracks]
@[simp] theorem State.requeueAll_link (s : State) : (s.requeueAll).link = s.link := by
  simp [State.requeueAll, allTracks]
@[simp] theorem State.requeueAll_params (s : State) : (s.requeueAll).params = s.params := by
  simp [State.requeueAll, allTracks]
@[simp] theorem State.requeueAll_clock (s : State) : (s.requeueAll).clock = s.clock := by
  simp [State.requeueAll, allTracks]
@[simp] theorem State.requeueAll_countUps (s : State) : (s.requeueAll).countUps = s.countUps := by
  simp [State.requeueAll, allTracks]
@[simp] theorem State.requeueAll_roll (s : State) : (s.requeueAll).roll = s.roll := by
  simp [State.requeueAll, allTracks]
@[simp] theorem State.requeueAll_cards (s : State) : (s.requeueAll).cards = s.cards := by
  simp [State.requeueAll, allTracks]
@[simp] theorem State.requeueAll_plans (s : State) : (s.requeueAll).plans = s.plans := by
  simp [State.requeueAll, allTracks]
@[simp] theorem State.requeueAll_running (s : State) : (s.requeueAll).running = s.running := by
  simp [State.requeueAll, allTracks]
@[simp] theorem State.requeueAll_ring (s : State) : (s.requeueAll).ring = s.ring := by
  simp [State.requeueAll, allTracks]
@[simp] theorem State.requeueAll_desk (s : State) : (s.requeueAll).desk = s.desk := by
  simp [State.requeueAll, allTracks]
@[simp] theorem State.requeueAll_arrivals (s : State) : (s.requeueAll).arrivals = s.arrivals := by
  simp [State.requeueAll, allTracks]
@[simp] theorem State.requeueAll_book (s : State) : (s.requeueAll).book = s.book := by
  simp [State.requeueAll, allTracks]
@[simp] theorem State.requeueAll_notices (s : State) : (s.requeueAll).notices = s.notices := by
  simp [State.requeueAll, allTracks]
@[simp] theorem State.requeueAll_days (s : State) : (s.requeueAll).days = s.days := by
  simp [State.requeueAll, allTracks]

/-! `State.startDays`: only the rollover record changes -/

@[simp] theorem State.startDays_pending (s : State) : (s.startDays).pending = s.pending := by
  unfold State.startDays; (repeat' split) <;> simp
@[simp] theorem State.startDays_power (s : State) : (s.startDays).power = s.power := by
  unfold State.startDays; (repeat' split) <;> simp
@[simp] theorem State.startDays_link (s : State) : (s.startDays).link = s.link := by
  unfold State.startDays; (repeat' split) <;> simp
@[simp] theorem State.startDays_params (s : State) : (s.startDays).params = s.params := by
  unfold State.startDays; (repeat' split) <;> simp
@[simp] theorem State.startDays_clock (s : State) : (s.startDays).clock = s.clock := by
  unfold State.startDays; (repeat' split) <;> simp
@[simp] theorem State.startDays_countUps (s : State) : (s.startDays).countUps = s.countUps := by
  unfold State.startDays; (repeat' split) <;> simp
@[simp] theorem State.startDays_roll (s : State) : (s.startDays).roll = s.roll := by
  unfold State.startDays; (repeat' split) <;> simp
@[simp] theorem State.startDays_cards (s : State) : (s.startDays).cards = s.cards := by
  unfold State.startDays; (repeat' split) <;> simp
@[simp] theorem State.startDays_plans (s : State) : (s.startDays).plans = s.plans := by
  unfold State.startDays; (repeat' split) <;> simp
@[simp] theorem State.startDays_running (s : State) : (s.startDays).running = s.running := by
  unfold State.startDays; (repeat' split) <;> simp
@[simp] theorem State.startDays_ring (s : State) : (s.startDays).ring = s.ring := by
  unfold State.startDays; (repeat' split) <;> simp
@[simp] theorem State.startDays_desk (s : State) : (s.startDays).desk = s.desk := by
  unfold State.startDays; (repeat' split) <;> simp
@[simp] theorem State.startDays_arrivals (s : State) : (s.startDays).arrivals = s.arrivals := by
  unfold State.startDays; (repeat' split) <;> simp
@[simp] theorem State.startDays_sweep (s : State) : (s.startDays).sweep = s.sweep := by
  unfold State.startDays; (repeat' split) <;> simp
@[simp] theorem State.startDays_book (s : State) : (s.startDays).book = s.book := by
  unfold State.startDays; (repeat' split) <;> simp
@[simp] theorem State.startDays_notices (s : State) : (s.startDays).notices = s.notices := by
  unfold State.startDays; (repeat' split) <;> simp

/-! `Judgement.logged`: the log and the pending classes change. -/

@[simp] theorem Judgement.logged_pending (j : Judgement) (d : Stamp) (p : Option Nat) (t : Nat) (o : Bool) :
    (j.logged d p t o).pending = j.state.pending := by
  simp [Judgement.logged]
@[simp] theorem Judgement.logged_power (j : Judgement) (d : Stamp) (p : Option Nat) (t : Nat) (o : Bool) :
    (j.logged d p t o).power = j.state.power := by
  simp [Judgement.logged]
@[simp] theorem Judgement.logged_params (j : Judgement) (d : Stamp) (p : Option Nat) (t : Nat) (o : Bool) :
    (j.logged d p t o).params = j.state.params := by
  simp [Judgement.logged]
@[simp] theorem Judgement.logged_clock (j : Judgement) (d : Stamp) (p : Option Nat) (t : Nat) (o : Bool) :
    (j.logged d p t o).clock = j.state.clock := by
  simp [Judgement.logged]
@[simp] theorem Judgement.logged_countUps (j : Judgement) (d : Stamp) (p : Option Nat) (t : Nat) (o : Bool) :
    (j.logged d p t o).countUps = j.state.countUps := by
  simp [Judgement.logged]
@[simp] theorem Judgement.logged_roll (j : Judgement) (d : Stamp) (p : Option Nat) (t : Nat) (o : Bool) :
    (j.logged d p t o).roll = j.state.roll := by
  simp [Judgement.logged]
@[simp] theorem Judgement.logged_cards (j : Judgement) (d : Stamp) (p : Option Nat) (t : Nat) (o : Bool) :
    (j.logged d p t o).cards = j.state.cards := by
  simp [Judgement.logged]
@[simp] theorem Judgement.logged_plans (j : Judgement) (d : Stamp) (p : Option Nat) (t : Nat) (o : Bool) :
    (j.logged d p t o).plans = j.state.plans := by
  simp [Judgement.logged]
@[simp] theorem Judgement.logged_running (j : Judgement) (d : Stamp) (p : Option Nat) (t : Nat) (o : Bool) :
    (j.logged d p t o).running = j.state.running := by
  simp [Judgement.logged]
@[simp] theorem Judgement.logged_ring (j : Judgement) (d : Stamp) (p : Option Nat) (t : Nat) (o : Bool) :
    (j.logged d p t o).ring = j.state.ring := by
  simp [Judgement.logged]
@[simp] theorem Judgement.logged_desk (j : Judgement) (d : Stamp) (p : Option Nat) (t : Nat) (o : Bool) :
    (j.logged d p t o).desk = j.state.desk := by
  simp [Judgement.logged]
@[simp] theorem Judgement.logged_sweep (j : Judgement) (d : Stamp) (p : Option Nat) (t : Nat) (o : Bool) :
    (j.logged d p t o).sweep = j.state.sweep := by
  simp [Judgement.logged]
@[simp] theorem Judgement.logged_book (j : Judgement) (d : Stamp) (p : Option Nat) (t : Nat) (o : Bool) :
    (j.logged d p t o).book = j.state.book := by
  simp [Judgement.logged]
@[simp] theorem Judgement.logged_notices (j : Judgement) (d : Stamp) (p : Option Nat) (t : Nat) (o : Bool) :
    (j.logged d p t o).notices = j.state.notices := by
  simp [Judgement.logged]
@[simp] theorem Judgement.logged_days (j : Judgement) (d : Stamp) (p : Option Nat) (t : Nat) (o : Bool) :
    (j.logged d p t o).days = j.state.days := by
  simp [Judgement.logged]

/-! `State.takeActions`: the running plans and the sweep queue change -/

@[simp] theorem State.takeActions_pending (s : State) (t : Track) (l : List RunningEntry) : (s.takeActions t l).pending = s.pending := by
  induction l generalizing s with
  | nil => rfl
  | cons e l ih => simp [State.takeActions, ih]
@[simp] theorem State.takeActions_power (s : State) (t : Track) (l : List RunningEntry) : (s.takeActions t l).power = s.power := by
  induction l generalizing s with
  | nil => rfl
  | cons e l ih => simp [State.takeActions, ih]
@[simp] theorem State.takeActions_link (s : State) (t : Track) (l : List RunningEntry) : (s.takeActions t l).link = s.link := by
  induction l generalizing s with
  | nil => rfl
  | cons e l ih => simp [State.takeActions, ih]
@[simp] theorem State.takeActions_params (s : State) (t : Track) (l : List RunningEntry) : (s.takeActions t l).params = s.params := by
  induction l generalizing s with
  | nil => rfl
  | cons e l ih => simp [State.takeActions, ih]
@[simp] theorem State.takeActions_clock (s : State) (t : Track) (l : List RunningEntry) : (s.takeActions t l).clock = s.clock := by
  induction l generalizing s with
  | nil => rfl
  | cons e l ih => simp [State.takeActions, ih]
@[simp] theorem State.takeActions_countUps (s : State) (t : Track) (l : List RunningEntry) : (s.takeActions t l).countUps = s.countUps := by
  induction l generalizing s with
  | nil => rfl
  | cons e l ih => simp [State.takeActions, ih]
@[simp] theorem State.takeActions_roll (s : State) (t : Track) (l : List RunningEntry) : (s.takeActions t l).roll = s.roll := by
  induction l generalizing s with
  | nil => rfl
  | cons e l ih => simp [State.takeActions, ih]
@[simp] theorem State.takeActions_cards (s : State) (t : Track) (l : List RunningEntry) : (s.takeActions t l).cards = s.cards := by
  induction l generalizing s with
  | nil => rfl
  | cons e l ih => simp [State.takeActions, ih]
@[simp] theorem State.takeActions_plans (s : State) (t : Track) (l : List RunningEntry) : (s.takeActions t l).plans = s.plans := by
  induction l generalizing s with
  | nil => rfl
  | cons e l ih => simp [State.takeActions, ih]
@[simp] theorem State.takeActions_ring (s : State) (t : Track) (l : List RunningEntry) : (s.takeActions t l).ring = s.ring := by
  induction l generalizing s with
  | nil => rfl
  | cons e l ih => simp [State.takeActions, ih]
@[simp] theorem State.takeActions_desk (s : State) (t : Track) (l : List RunningEntry) : (s.takeActions t l).desk = s.desk := by
  induction l generalizing s with
  | nil => rfl
  | cons e l ih => simp [State.takeActions, ih]
@[simp] theorem State.takeActions_arrivals (s : State) (t : Track) (l : List RunningEntry) : (s.takeActions t l).arrivals = s.arrivals := by
  induction l generalizing s with
  | nil => rfl
  | cons e l ih => simp [State.takeActions, ih]
@[simp] theorem State.takeActions_book (s : State) (t : Track) (l : List RunningEntry) : (s.takeActions t l).book = s.book := by
  induction l generalizing s with
  | nil => rfl
  | cons e l ih => simp [State.takeActions, ih]
@[simp] theorem State.takeActions_notices (s : State) (t : Track) (l : List RunningEntry) : (s.takeActions t l).notices = s.notices := by
  induction l generalizing s with
  | nil => rfl
  | cons e l ih => simp [State.takeActions, ih]
@[simp] theorem State.takeActions_days (s : State) (t : Track) (l : List RunningEntry) : (s.takeActions t l).days = s.days := by
  induction l generalizing s with
  | nil => rfl
  | cons e l ih => simp [State.takeActions, ih]

/-! `State.sendRings`: only the rings and the pending classes change -/

@[simp] theorem State.sendRings_pending (s : State) (t : Track) (l : List Nat) : (s.sendRings t l).pending = s.pending := by
  induction l generalizing s with
  | nil => rfl
  | cons e l ih => unfold State.sendRings; (repeat' split) <;> simp [ih]
@[simp] theorem State.sendRings_power (s : State) (t : Track) (l : List Nat) : (s.sendRings t l).power = s.power := by
  induction l generalizing s with
  | nil => rfl
  | cons e l ih => unfold State.sendRings; (repeat' split) <;> simp [ih]
@[simp] theorem State.sendRings_params (s : State) (t : Track) (l : List Nat) : (s.sendRings t l).params = s.params := by
  induction l generalizing s with
  | nil => rfl
  | cons e l ih => unfold State.sendRings; (repeat' split) <;> simp [ih]
@[simp] theorem State.sendRings_clock (s : State) (t : Track) (l : List Nat) : (s.sendRings t l).clock = s.clock := by
  induction l generalizing s with
  | nil => rfl
  | cons e l ih => unfold State.sendRings; (repeat' split) <;> simp [ih]
@[simp] theorem State.sendRings_countUps (s : State) (t : Track) (l : List Nat) : (s.sendRings t l).countUps = s.countUps := by
  induction l generalizing s with
  | nil => rfl
  | cons e l ih => unfold State.sendRings; (repeat' split) <;> simp [ih]
@[simp] theorem State.sendRings_roll (s : State) (t : Track) (l : List Nat) : (s.sendRings t l).roll = s.roll := by
  induction l generalizing s with
  | nil => rfl
  | cons e l ih => unfold State.sendRings; (repeat' split) <;> simp [ih]
@[simp] theorem State.sendRings_cards (s : State) (t : Track) (l : List Nat) : (s.sendRings t l).cards = s.cards := by
  induction l generalizing s with
  | nil => rfl
  | cons e l ih => unfold State.sendRings; (repeat' split) <;> simp [ih]
@[simp] theorem State.sendRings_plans (s : State) (t : Track) (l : List Nat) : (s.sendRings t l).plans = s.plans := by
  induction l generalizing s with
  | nil => rfl
  | cons e l ih => unfold State.sendRings; (repeat' split) <;> simp [ih]
@[simp] theorem State.sendRings_running (s : State) (t : Track) (l : List Nat) : (s.sendRings t l).running = s.running := by
  induction l generalizing s with
  | nil => rfl
  | cons e l ih => unfold State.sendRings; (repeat' split) <;> simp [ih]
@[simp] theorem State.sendRings_desk (s : State) (t : Track) (l : List Nat) : (s.sendRings t l).desk = s.desk := by
  induction l generalizing s with
  | nil => rfl
  | cons e l ih => unfold State.sendRings; (repeat' split) <;> simp [ih]
@[simp] theorem State.sendRings_arrivals (s : State) (t : Track) (l : List Nat) : (s.sendRings t l).arrivals = s.arrivals := by
  induction l generalizing s with
  | nil => rfl
  | cons e l ih => unfold State.sendRings; (repeat' split) <;> simp [ih]
@[simp] theorem State.sendRings_sweep (s : State) (t : Track) (l : List Nat) : (s.sendRings t l).sweep = s.sweep := by
  induction l generalizing s with
  | nil => rfl
  | cons e l ih => unfold State.sendRings; (repeat' split) <;> simp [ih]
@[simp] theorem State.sendRings_book (s : State) (t : Track) (l : List Nat) : (s.sendRings t l).book = s.book := by
  induction l generalizing s with
  | nil => rfl
  | cons e l ih => unfold State.sendRings; (repeat' split) <;> simp [ih]
@[simp] theorem State.sendRings_notices (s : State) (t : Track) (l : List Nat) : (s.sendRings t l).notices = s.notices := by
  induction l generalizing s with
  | nil => rfl
  | cons e l ih => unfold State.sendRings; (repeat' split) <;> simp [ih]
@[simp] theorem State.sendRings_days (s : State) (t : Track) (l : List Nat) : (s.sendRings t l).days = s.days := by
  induction l generalizing s with
  | nil => rfl
  | cons e l ih => unfold State.sendRings; (repeat' split) <;> simp [ih]

/-! `State.fireTrack`: the running plans, the sweep queue, the rings and the pending classes change -/

@[simp] theorem State.fireTrack_pending (s : State) (n : Nat) (t : Track) : (s.fireTrack n t).pending = s.pending := by
  simp [State.fireTrack]
@[simp] theorem State.fireTrack_power (s : State) (n : Nat) (t : Track) : (s.fireTrack n t).power = s.power := by
  simp [State.fireTrack]
@[simp] theorem State.fireTrack_params (s : State) (n : Nat) (t : Track) : (s.fireTrack n t).params = s.params := by
  simp [State.fireTrack]
@[simp] theorem State.fireTrack_clock (s : State) (n : Nat) (t : Track) : (s.fireTrack n t).clock = s.clock := by
  simp [State.fireTrack]
@[simp] theorem State.fireTrack_countUps (s : State) (n : Nat) (t : Track) : (s.fireTrack n t).countUps = s.countUps := by
  simp [State.fireTrack]
@[simp] theorem State.fireTrack_roll (s : State) (n : Nat) (t : Track) : (s.fireTrack n t).roll = s.roll := by
  simp [State.fireTrack]
@[simp] theorem State.fireTrack_cards (s : State) (n : Nat) (t : Track) : (s.fireTrack n t).cards = s.cards := by
  simp [State.fireTrack]
@[simp] theorem State.fireTrack_plans (s : State) (n : Nat) (t : Track) : (s.fireTrack n t).plans = s.plans := by
  simp [State.fireTrack]
@[simp] theorem State.fireTrack_desk (s : State) (n : Nat) (t : Track) : (s.fireTrack n t).desk = s.desk := by
  simp [State.fireTrack]
@[simp] theorem State.fireTrack_arrivals (s : State) (n : Nat) (t : Track) : (s.fireTrack n t).arrivals = s.arrivals := by
  simp [State.fireTrack]
@[simp] theorem State.fireTrack_book (s : State) (n : Nat) (t : Track) : (s.fireTrack n t).book = s.book := by
  simp [State.fireTrack]
@[simp] theorem State.fireTrack_notices (s : State) (n : Nat) (t : Track) : (s.fireTrack n t).notices = s.notices := by
  simp [State.fireTrack]
@[simp] theorem State.fireTrack_days (s : State) (n : Nat) (t : Track) : (s.fireTrack n t).days = s.days := by
  simp [State.fireTrack]

/-! `State.fireAll`: the running plans, the sweep queue, the rings and the pending classes change -/

@[simp] theorem State.fireAll_pending (s : State) (n : Nat) : (s.fireAll n).pending = s.pending := by
  simp [State.fireAll, allTracks]
@[simp] theorem State.fireAll_power (s : State) (n : Nat) : (s.fireAll n).power = s.power := by
  simp [State.fireAll, allTracks]
@[simp] theorem State.fireAll_params (s : State) (n : Nat) : (s.fireAll n).params = s.params := by
  simp [State.fireAll, allTracks]
@[simp] theorem State.fireAll_clock (s : State) (n : Nat) : (s.fireAll n).clock = s.clock := by
  simp [State.fireAll, allTracks]
@[simp] theorem State.fireAll_countUps (s : State) (n : Nat) : (s.fireAll n).countUps = s.countUps := by
  simp [State.fireAll, allTracks]
@[simp] theorem State.fireAll_roll (s : State) (n : Nat) : (s.fireAll n).roll = s.roll := by
  simp [State.fireAll, allTracks]
@[simp] theorem State.fireAll_cards (s : State) (n : Nat) : (s.fireAll n).cards = s.cards := by
  simp [State.fireAll, allTracks]
@[simp] theorem State.fireAll_plans (s : State) (n : Nat) : (s.fireAll n).plans = s.plans := by
  simp [State.fireAll, allTracks]
@[simp] theorem State.fireAll_desk (s : State) (n : Nat) : (s.fireAll n).desk = s.desk := by
  simp [State.fireAll, allTracks]
@[simp] theorem State.fireAll_arrivals (s : State) (n : Nat) : (s.fireAll n).arrivals = s.arrivals := by
  simp [State.fireAll, allTracks]
@[simp] theorem State.fireAll_book (s : State) (n : Nat) : (s.fireAll n).book = s.book := by
  simp [State.fireAll, allTracks]
@[simp] theorem State.fireAll_notices (s : State) (n : Nat) : (s.fireAll n).notices = s.notices := by
  simp [State.fireAll, allTracks]
@[simp] theorem State.fireAll_days (s : State) (n : Nat) : (s.fireAll n).days = s.days := by
  simp [State.fireAll, allTracks]

/-! `State.fireOldest`: the running plans, the sweep queue, the rings, the pending classes and the count-ups handed on change -/

@[simp] theorem State.fireOldest_pending (s : State) : (s.fireOldest).pending = s.pending := by
  unfold State.fireOldest; dsimp only; (repeat' split) <;> simp
@[simp] theorem State.fireOldest_power (s : State) : (s.fireOldest).power = s.power := by
  unfold State.fireOldest; dsimp only; (repeat' split) <;> simp
@[simp] theorem State.fireOldest_params (s : State) : (s.fireOldest).params = s.params := by
  unfold State.fireOldest; dsimp only; (repeat' split) <;> simp
@[simp] theorem State.fireOldest_clock (s : State) : (s.fireOldest).clock = s.clock := by
  unfold State.fireOldest; dsimp only; (repeat' split) <;> simp
@[simp] theorem State.fireOldest_roll (s : State) : (s.fireOldest).roll = s.roll := by
  unfold State.fireOldest; dsimp only; (repeat' split) <;> simp
@[simp] theorem State.fireOldest_cards (s : State) : (s.fireOldest).cards = s.cards := by
  unfold State.fireOldest; dsimp only; (repeat' split) <;> simp
@[simp] theorem State.fireOldest_plans (s : State) : (s.fireOldest).plans = s.plans := by
  unfold State.fireOldest; dsimp only; (repeat' split) <;> simp
@[simp] theorem State.fireOldest_desk (s : State) : (s.fireOldest).desk = s.desk := by
  unfold State.fireOldest; dsimp only; (repeat' split) <;> simp
@[simp] theorem State.fireOldest_arrivals (s : State) : (s.fireOldest).arrivals = s.arrivals := by
  unfold State.fireOldest; dsimp only; (repeat' split) <;> simp
@[simp] theorem State.fireOldest_book (s : State) : (s.fireOldest).book = s.book := by
  unfold State.fireOldest; dsimp only; (repeat' split) <;> simp
@[simp] theorem State.fireOldest_notices (s : State) : (s.fireOldest).notices = s.notices := by
  unfold State.fireOldest; dsimp only; (repeat' split) <;> simp
@[simp] theorem State.fireOldest_days (s : State) : (s.fireOldest).days = s.days := by
  unfold State.fireOldest; dsimp only; (repeat' split) <;> simp

/-! `State.degradeAll`: only the rings and the pending classes change -/

@[simp] theorem State.degradeAll_pending (s : State) (l : List Job) : (s.degradeAll l).pending = s.pending := by
  induction l generalizing s with
  | nil => rfl
  | cons e l ih => simp [State.degradeAll, ih]
@[simp] theorem State.degradeAll_power (s : State) (l : List Job) : (s.degradeAll l).power = s.power := by
  induction l generalizing s with
  | nil => rfl
  | cons e l ih => simp [State.degradeAll, ih]
@[simp] theorem State.degradeAll_params (s : State) (l : List Job) : (s.degradeAll l).params = s.params := by
  induction l generalizing s with
  | nil => rfl
  | cons e l ih => simp [State.degradeAll, ih]
@[simp] theorem State.degradeAll_clock (s : State) (l : List Job) : (s.degradeAll l).clock = s.clock := by
  induction l generalizing s with
  | nil => rfl
  | cons e l ih => simp [State.degradeAll, ih]
@[simp] theorem State.degradeAll_countUps (s : State) (l : List Job) : (s.degradeAll l).countUps = s.countUps := by
  induction l generalizing s with
  | nil => rfl
  | cons e l ih => simp [State.degradeAll, ih]
@[simp] theorem State.degradeAll_roll (s : State) (l : List Job) : (s.degradeAll l).roll = s.roll := by
  induction l generalizing s with
  | nil => rfl
  | cons e l ih => simp [State.degradeAll, ih]
@[simp] theorem State.degradeAll_cards (s : State) (l : List Job) : (s.degradeAll l).cards = s.cards := by
  induction l generalizing s with
  | nil => rfl
  | cons e l ih => simp [State.degradeAll, ih]
@[simp] theorem State.degradeAll_plans (s : State) (l : List Job) : (s.degradeAll l).plans = s.plans := by
  induction l generalizing s with
  | nil => rfl
  | cons e l ih => simp [State.degradeAll, ih]
@[simp] theorem State.degradeAll_running (s : State) (l : List Job) : (s.degradeAll l).running = s.running := by
  induction l generalizing s with
  | nil => rfl
  | cons e l ih => simp [State.degradeAll, ih]
@[simp] theorem State.degradeAll_desk (s : State) (l : List Job) : (s.degradeAll l).desk = s.desk := by
  induction l generalizing s with
  | nil => rfl
  | cons e l ih => simp [State.degradeAll, ih]
@[simp] theorem State.degradeAll_arrivals (s : State) (l : List Job) : (s.degradeAll l).arrivals = s.arrivals := by
  induction l generalizing s with
  | nil => rfl
  | cons e l ih => simp [State.degradeAll, ih]
@[simp] theorem State.degradeAll_sweep (s : State) (l : List Job) : (s.degradeAll l).sweep = s.sweep := by
  induction l generalizing s with
  | nil => rfl
  | cons e l ih => simp [State.degradeAll, ih]
@[simp] theorem State.degradeAll_book (s : State) (l : List Job) : (s.degradeAll l).book = s.book := by
  induction l generalizing s with
  | nil => rfl
  | cons e l ih => simp [State.degradeAll, ih]
@[simp] theorem State.degradeAll_notices (s : State) (l : List Job) : (s.degradeAll l).notices = s.notices := by
  induction l generalizing s with
  | nil => rfl
  | cons e l ih => simp [State.degradeAll, ih]
@[simp] theorem State.degradeAll_days (s : State) (l : List Job) : (s.degradeAll l).days = s.days := by
  induction l generalizing s with
  | nil => rfl
  | cons e l ih => simp [State.degradeAll, ih]

/-! `State.countWaits`: the rings, the pending classes and the count-ups handed on change -/

@[simp] theorem State.countWaits_pending (s : State) : (s.countWaits).pending = s.pending := by
  simp [State.countWaits]
@[simp] theorem State.countWaits_power (s : State) : (s.countWaits).power = s.power := by
  simp [State.countWaits]
@[simp] theorem State.countWaits_params (s : State) : (s.countWaits).params = s.params := by
  simp [State.countWaits]
@[simp] theorem State.countWaits_clock (s : State) : (s.countWaits).clock = s.clock := by
  simp [State.countWaits]
@[simp] theorem State.countWaits_roll (s : State) : (s.countWaits).roll = s.roll := by
  simp [State.countWaits]
@[simp] theorem State.countWaits_cards (s : State) : (s.countWaits).cards = s.cards := by
  simp [State.countWaits]
@[simp] theorem State.countWaits_plans (s : State) : (s.countWaits).plans = s.plans := by
  simp [State.countWaits]
@[simp] theorem State.countWaits_running (s : State) : (s.countWaits).running = s.running := by
  simp [State.countWaits]
@[simp] theorem State.countWaits_desk (s : State) : (s.countWaits).desk = s.desk := by
  simp [State.countWaits]
@[simp] theorem State.countWaits_arrivals (s : State) : (s.countWaits).arrivals = s.arrivals := by
  simp [State.countWaits]
@[simp] theorem State.countWaits_sweep (s : State) : (s.countWaits).sweep = s.sweep := by
  simp [State.countWaits]
@[simp] theorem State.countWaits_book (s : State) : (s.countWaits).book = s.book := by
  simp [State.countWaits]
@[simp] theorem State.countWaits_notices (s : State) : (s.countWaits).notices = s.notices := by
  simp [State.countWaits]
@[simp] theorem State.countWaits_days (s : State) : (s.countWaits).days = s.days := by
  simp [State.countWaits]

/-! `State.arrive`: the roll, the book, the notices and the pending classes change -/

@[simp] theorem State.arrive_pending (s : State) (i : Nat) (p : Pupil) (t : Nat) : ((s.arrive i p t).state).pending = s.pending := by
  unfold State.arrive verdictOnly; dsimp only; (repeat' split) <;> simp
@[simp] theorem State.arrive_power (s : State) (i : Nat) (p : Pupil) (t : Nat) : ((s.arrive i p t).state).power = s.power := by
  unfold State.arrive verdictOnly; dsimp only; (repeat' split) <;> simp
@[simp] theorem State.arrive_params (s : State) (i : Nat) (p : Pupil) (t : Nat) : ((s.arrive i p t).state).params = s.params := by
  unfold State.arrive verdictOnly; dsimp only; (repeat' split) <;> simp
@[simp] theorem State.arrive_clock (s : State) (i : Nat) (p : Pupil) (t : Nat) : ((s.arrive i p t).state).clock = s.clock := by
  unfold State.arrive verdictOnly; dsimp only; (repeat' split) <;> simp
@[simp] theorem State.arrive_countUps (s : State) (i : Nat) (p : Pupil) (t : Nat) : ((s.arrive i p t).state).countUps = s.countUps := by
  unfold State.arrive verdictOnly; dsimp only; (repeat' split) <;> simp
@[simp] theorem State.arrive_cards (s : State) (i : Nat) (p : Pupil) (t : Nat) : ((s.arrive i p t).state).cards = s.cards := by
  unfold State.arrive verdictOnly; dsimp only; (repeat' split) <;> simp
@[simp] theorem State.arrive_plans (s : State) (i : Nat) (p : Pupil) (t : Nat) : ((s.arrive i p t).state).plans = s.plans := by
  unfold State.arrive verdictOnly; dsimp only; (repeat' split) <;> simp
@[simp] theorem State.arrive_running (s : State) (i : Nat) (p : Pupil) (t : Nat) : ((s.arrive i p t).state).running = s.running := by
  unfold State.arrive verdictOnly; dsimp only; (repeat' split) <;> simp
@[simp] theorem State.arrive_ring (s : State) (i : Nat) (p : Pupil) (t : Nat) : ((s.arrive i p t).state).ring = s.ring := by
  unfold State.arrive verdictOnly; dsimp only; (repeat' split) <;> simp
@[simp] theorem State.arrive_desk (s : State) (i : Nat) (p : Pupil) (t : Nat) : ((s.arrive i p t).state).desk = s.desk := by
  unfold State.arrive verdictOnly; dsimp only; (repeat' split) <;> simp
@[simp] theorem State.arrive_arrivals (s : State) (i : Nat) (p : Pupil) (t : Nat) : ((s.arrive i p t).state).arrivals = s.arrivals := by
  unfold State.arrive verdictOnly; dsimp only; (repeat' split) <;> simp
@[simp] theorem State.arrive_sweep (s : State) (i : Nat) (p : Pupil) (t : Nat) : ((s.arrive i p t).state).sweep = s.sweep := by
  unfold State.arrive verdictOnly; dsimp only; (repeat' split) <;> simp
@[simp] theorem State.arrive_days (s : State) (i : Nat) (p : Pupil) (t : Nat) : ((s.arrive i p t).state).days = s.days := by
  unfold State.arrive verdictOnly; dsimp only; (repeat' split) <;> simp

/-! `State.comeBack`: the roll, the off-site list, the notices and the pending classes change -/

@[simp] theorem State.comeBack_pending (s : State) (i : Nat) (p : Pupil) (t : Nat) : ((s.comeBack i p t).state).pending = s.pending := by
  unfold State.comeBack verdictOnly; dsimp only; (repeat' split) <;> simp
@[simp] theorem State.comeBack_power (s : State) (i : Nat) (p : Pupil) (t : Nat) : ((s.comeBack i p t).state).power = s.power := by
  unfold State.comeBack verdictOnly; dsimp only; (repeat' split) <;> simp
@[simp] theorem State.comeBack_params (s : State) (i : Nat) (p : Pupil) (t : Nat) : ((s.comeBack i p t).state).params = s.params := by
  unfold State.comeBack verdictOnly; dsimp only; (repeat' split) <;> simp
@[simp] theorem State.comeBack_clock (s : State) (i : Nat) (p : Pupil) (t : Nat) : ((s.comeBack i p t).state).clock = s.clock := by
  unfold State.comeBack verdictOnly; dsimp only; (repeat' split) <;> simp
@[simp] theorem State.comeBack_countUps (s : State) (i : Nat) (p : Pupil) (t : Nat) : ((s.comeBack i p t).state).countUps = s.countUps := by
  unfold State.comeBack verdictOnly; dsimp only; (repeat' split) <;> simp
@[simp] theorem State.comeBack_cards (s : State) (i : Nat) (p : Pupil) (t : Nat) : ((s.comeBack i p t).state).cards = s.cards := by
  unfold State.comeBack verdictOnly; dsimp only; (repeat' split) <;> simp
@[simp] theorem State.comeBack_plans (s : State) (i : Nat) (p : Pupil) (t : Nat) : ((s.comeBack i p t).state).plans = s.plans := by
  unfold State.comeBack verdictOnly; dsimp only; (repeat' split) <;> simp
@[simp] theorem State.comeBack_running (s : State) (i : Nat) (p : Pupil) (t : Nat) : ((s.comeBack i p t).state).running = s.running := by
  unfold State.comeBack verdictOnly; dsimp only; (repeat' split) <;> simp
@[simp] theorem State.comeBack_ring (s : State) (i : Nat) (p : Pupil) (t : Nat) : ((s.comeBack i p t).state).ring = s.ring := by
  unfold State.comeBack verdictOnly; dsimp only; (repeat' split) <;> simp
@[simp] theorem State.comeBack_desk (s : State) (i : Nat) (p : Pupil) (t : Nat) : ((s.comeBack i p t).state).desk = s.desk := by
  unfold State.comeBack verdictOnly; dsimp only; (repeat' split) <;> simp
@[simp] theorem State.comeBack_sweep (s : State) (i : Nat) (p : Pupil) (t : Nat) : ((s.comeBack i p t).state).sweep = s.sweep := by
  unfold State.comeBack verdictOnly; dsimp only; (repeat' split) <;> simp
@[simp] theorem State.comeBack_book (s : State) (i : Nat) (p : Pupil) (t : Nat) : ((s.comeBack i p t).state).book = s.book := by
  unfold State.comeBack verdictOnly; dsimp only; (repeat' split) <;> simp
@[simp] theorem State.comeBack_days (s : State) (i : Nat) (p : Pupil) (t : Nat) : ((s.comeBack i p t).state).days = s.days := by
  unfold State.comeBack verdictOnly; dsimp only; (repeat' split) <;> simp

/-! `State.judgeIn`: the roll, the book, the off-site list, the notices and the pending classes change -/

@[simp] theorem State.judgeIn_pending (s : State) (i : Nat) (p : Pupil) (d : Stamp) : ((s.judgeIn i p d).state).pending = s.pending := by
  unfold State.judgeIn; (repeat' split) <;> simp [verdictOnly]
@[simp] theorem State.judgeIn_power (s : State) (i : Nat) (p : Pupil) (d : Stamp) : ((s.judgeIn i p d).state).power = s.power := by
  unfold State.judgeIn; (repeat' split) <;> simp [verdictOnly]
@[simp] theorem State.judgeIn_params (s : State) (i : Nat) (p : Pupil) (d : Stamp) : ((s.judgeIn i p d).state).params = s.params := by
  unfold State.judgeIn; (repeat' split) <;> simp [verdictOnly]
@[simp] theorem State.judgeIn_clock (s : State) (i : Nat) (p : Pupil) (d : Stamp) : ((s.judgeIn i p d).state).clock = s.clock := by
  unfold State.judgeIn; (repeat' split) <;> simp [verdictOnly]
@[simp] theorem State.judgeIn_countUps (s : State) (i : Nat) (p : Pupil) (d : Stamp) : ((s.judgeIn i p d).state).countUps = s.countUps := by
  unfold State.judgeIn; (repeat' split) <;> simp [verdictOnly]
@[simp] theorem State.judgeIn_cards (s : State) (i : Nat) (p : Pupil) (d : Stamp) : ((s.judgeIn i p d).state).cards = s.cards := by
  unfold State.judgeIn; (repeat' split) <;> simp [verdictOnly]
@[simp] theorem State.judgeIn_plans (s : State) (i : Nat) (p : Pupil) (d : Stamp) : ((s.judgeIn i p d).state).plans = s.plans := by
  unfold State.judgeIn; (repeat' split) <;> simp [verdictOnly]
@[simp] theorem State.judgeIn_running (s : State) (i : Nat) (p : Pupil) (d : Stamp) : ((s.judgeIn i p d).state).running = s.running := by
  unfold State.judgeIn; (repeat' split) <;> simp [verdictOnly]
@[simp] theorem State.judgeIn_ring (s : State) (i : Nat) (p : Pupil) (d : Stamp) : ((s.judgeIn i p d).state).ring = s.ring := by
  unfold State.judgeIn; (repeat' split) <;> simp [verdictOnly]
@[simp] theorem State.judgeIn_desk (s : State) (i : Nat) (p : Pupil) (d : Stamp) : ((s.judgeIn i p d).state).desk = s.desk := by
  unfold State.judgeIn; (repeat' split) <;> simp [verdictOnly]
@[simp] theorem State.judgeIn_sweep (s : State) (i : Nat) (p : Pupil) (d : Stamp) : ((s.judgeIn i p d).state).sweep = s.sweep := by
  unfold State.judgeIn; (repeat' split) <;> simp [verdictOnly]
@[simp] theorem State.judgeIn_days (s : State) (i : Nat) (p : Pupil) (d : Stamp) : ((s.judgeIn i p d).state).days = s.days := by
  unfold State.judgeIn; (repeat' split) <;> simp [verdictOnly]

/-! `State.judgeOut`: only the off-site list changes -/

@[simp] theorem State.judgeOut_pending (s : State) (i : Nat) (p : Pupil) (d : Stamp) (r : Reason) : ((s.judgeOut i p d r).state).pending = s.pending := by
  unfold State.judgeOut verdictOnly; (repeat' split) <;> simp
@[simp] theorem State.judgeOut_power (s : State) (i : Nat) (p : Pupil) (d : Stamp) (r : Reason) : ((s.judgeOut i p d r).state).power = s.power := by
  unfold State.judgeOut verdictOnly; (repeat' split) <;> simp
@[simp] theorem State.judgeOut_link (s : State) (i : Nat) (p : Pupil) (d : Stamp) (r : Reason) : ((s.judgeOut i p d r).state).link = s.link := by
  unfold State.judgeOut verdictOnly; (repeat' split) <;> simp
@[simp] theorem State.judgeOut_params (s : State) (i : Nat) (p : Pupil) (d : Stamp) (r : Reason) : ((s.judgeOut i p d r).state).params = s.params := by
  unfold State.judgeOut verdictOnly; (repeat' split) <;> simp
@[simp] theorem State.judgeOut_clock (s : State) (i : Nat) (p : Pupil) (d : Stamp) (r : Reason) : ((s.judgeOut i p d r).state).clock = s.clock := by
  unfold State.judgeOut verdictOnly; (repeat' split) <;> simp
@[simp] theorem State.judgeOut_countUps (s : State) (i : Nat) (p : Pupil) (d : Stamp) (r : Reason) : ((s.judgeOut i p d r).state).countUps = s.countUps := by
  unfold State.judgeOut verdictOnly; (repeat' split) <;> simp
@[simp] theorem State.judgeOut_roll (s : State) (i : Nat) (p : Pupil) (d : Stamp) (r : Reason) : ((s.judgeOut i p d r).state).roll = s.roll := by
  unfold State.judgeOut verdictOnly; (repeat' split) <;> simp
@[simp] theorem State.judgeOut_cards (s : State) (i : Nat) (p : Pupil) (d : Stamp) (r : Reason) : ((s.judgeOut i p d r).state).cards = s.cards := by
  unfold State.judgeOut verdictOnly; (repeat' split) <;> simp
@[simp] theorem State.judgeOut_plans (s : State) (i : Nat) (p : Pupil) (d : Stamp) (r : Reason) : ((s.judgeOut i p d r).state).plans = s.plans := by
  unfold State.judgeOut verdictOnly; (repeat' split) <;> simp
@[simp] theorem State.judgeOut_running (s : State) (i : Nat) (p : Pupil) (d : Stamp) (r : Reason) : ((s.judgeOut i p d r).state).running = s.running := by
  unfold State.judgeOut verdictOnly; (repeat' split) <;> simp
@[simp] theorem State.judgeOut_ring (s : State) (i : Nat) (p : Pupil) (d : Stamp) (r : Reason) : ((s.judgeOut i p d r).state).ring = s.ring := by
  unfold State.judgeOut verdictOnly; (repeat' split) <;> simp
@[simp] theorem State.judgeOut_desk (s : State) (i : Nat) (p : Pupil) (d : Stamp) (r : Reason) : ((s.judgeOut i p d r).state).desk = s.desk := by
  unfold State.judgeOut verdictOnly; (repeat' split) <;> simp
@[simp] theorem State.judgeOut_sweep (s : State) (i : Nat) (p : Pupil) (d : Stamp) (r : Reason) : ((s.judgeOut i p d r).state).sweep = s.sweep := by
  unfold State.judgeOut verdictOnly; (repeat' split) <;> simp
@[simp] theorem State.judgeOut_book (s : State) (i : Nat) (p : Pupil) (d : Stamp) (r : Reason) : ((s.judgeOut i p d r).state).book = s.book := by
  unfold State.judgeOut verdictOnly; (repeat' split) <;> simp
@[simp] theorem State.judgeOut_notices (s : State) (i : Nat) (p : Pupil) (d : Stamp) (r : Reason) : ((s.judgeOut i p d r).state).notices = s.notices := by
  unfold State.judgeOut verdictOnly; (repeat' split) <;> simp
@[simp] theorem State.judgeOut_days (s : State) (i : Nat) (p : Pupil) (d : Stamp) (r : Reason) : ((s.judgeOut i p d r).state).days = s.days := by
  unfold State.judgeOut verdictOnly; (repeat' split) <;> simp

/-! `State.judgeKnown`: the roll, the book, the off-site list, the notices and the pending classes change -/

@[simp] theorem State.judgeKnown_pending (s : State) (i : Nat) (p : Pupil) (t : Tap) : ((s.judgeKnown i p t).state).pending = s.pending := by
  unfold State.judgeKnown; split <;> simp
@[simp] theorem State.judgeKnown_power (s : State) (i : Nat) (p : Pupil) (t : Tap) : ((s.judgeKnown i p t).state).power = s.power := by
  unfold State.judgeKnown; split <;> simp
@[simp] theorem State.judgeKnown_params (s : State) (i : Nat) (p : Pupil) (t : Tap) : ((s.judgeKnown i p t).state).params = s.params := by
  unfold State.judgeKnown; split <;> simp
@[simp] theorem State.judgeKnown_clock (s : State) (i : Nat) (p : Pupil) (t : Tap) : ((s.judgeKnown i p t).state).clock = s.clock := by
  unfold State.judgeKnown; split <;> simp
@[simp] theorem State.judgeKnown_countUps (s : State) (i : Nat) (p : Pupil) (t : Tap) : ((s.judgeKnown i p t).state).countUps = s.countUps := by
  unfold State.judgeKnown; split <;> simp
@[simp] theorem State.judgeKnown_cards (s : State) (i : Nat) (p : Pupil) (t : Tap) : ((s.judgeKnown i p t).state).cards = s.cards := by
  unfold State.judgeKnown; split <;> simp
@[simp] theorem State.judgeKnown_plans (s : State) (i : Nat) (p : Pupil) (t : Tap) : ((s.judgeKnown i p t).state).plans = s.plans := by
  unfold State.judgeKnown; split <;> simp
@[simp] theorem State.judgeKnown_running (s : State) (i : Nat) (p : Pupil) (t : Tap) : ((s.judgeKnown i p t).state).running = s.running := by
  unfold State.judgeKnown; split <;> simp
@[simp] theorem State.judgeKnown_ring (s : State) (i : Nat) (p : Pupil) (t : Tap) : ((s.judgeKnown i p t).state).ring = s.ring := by
  unfold State.judgeKnown; split <;> simp
@[simp] theorem State.judgeKnown_desk (s : State) (i : Nat) (p : Pupil) (t : Tap) : ((s.judgeKnown i p t).state).desk = s.desk := by
  unfold State.judgeKnown; split <;> simp
@[simp] theorem State.judgeKnown_sweep (s : State) (i : Nat) (p : Pupil) (t : Tap) : ((s.judgeKnown i p t).state).sweep = s.sweep := by
  unfold State.judgeKnown; split <;> simp
@[simp] theorem State.judgeKnown_days (s : State) (i : Nat) (p : Pupil) (t : Tap) : ((s.judgeKnown i p t).state).days = s.days := by
  unfold State.judgeKnown; split <;> simp

/-! `State.judgeTap`: the roll, the book, the off-site list, the log, the notices, the desk line and the pending classes change -/

@[simp] theorem State.judgeTap_pending (s : State) (t : Tap) : (s.judgeTap t).pending = s.pending := by
  rcases h : s.tapPupil t with _ | ⟨i, p⟩ <;> simp [State.judgeTap, h, verdictOnly]
@[simp] theorem State.judgeTap_power (s : State) (t : Tap) : (s.judgeTap t).power = s.power := by
  rcases h : s.tapPupil t with _ | ⟨i, p⟩ <;> simp [State.judgeTap, h, verdictOnly]
@[simp] theorem State.judgeTap_params (s : State) (t : Tap) : (s.judgeTap t).params = s.params := by
  rcases h : s.tapPupil t with _ | ⟨i, p⟩ <;> simp [State.judgeTap, h, verdictOnly]
@[simp] theorem State.judgeTap_clock (s : State) (t : Tap) : (s.judgeTap t).clock = s.clock := by
  rcases h : s.tapPupil t with _ | ⟨i, p⟩ <;> simp [State.judgeTap, h, verdictOnly]
@[simp] theorem State.judgeTap_countUps (s : State) (t : Tap) : (s.judgeTap t).countUps = s.countUps := by
  rcases h : s.tapPupil t with _ | ⟨i, p⟩ <;> simp [State.judgeTap, h, verdictOnly]
@[simp] theorem State.judgeTap_cards (s : State) (t : Tap) : (s.judgeTap t).cards = s.cards := by
  rcases h : s.tapPupil t with _ | ⟨i, p⟩ <;> simp [State.judgeTap, h, verdictOnly]
@[simp] theorem State.judgeTap_plans (s : State) (t : Tap) : (s.judgeTap t).plans = s.plans := by
  rcases h : s.tapPupil t with _ | ⟨i, p⟩ <;> simp [State.judgeTap, h, verdictOnly]
@[simp] theorem State.judgeTap_running (s : State) (t : Tap) : (s.judgeTap t).running = s.running := by
  rcases h : s.tapPupil t with _ | ⟨i, p⟩ <;> simp [State.judgeTap, h, verdictOnly]
@[simp] theorem State.judgeTap_ring (s : State) (t : Tap) : (s.judgeTap t).ring = s.ring := by
  rcases h : s.tapPupil t with _ | ⟨i, p⟩ <;> simp [State.judgeTap, h, verdictOnly]
@[simp] theorem State.judgeTap_sweep (s : State) (t : Tap) : (s.judgeTap t).sweep = s.sweep := by
  rcases h : s.tapPupil t with _ | ⟨i, p⟩ <;> simp [State.judgeTap, h, verdictOnly]
@[simp] theorem State.judgeTap_days (s : State) (t : Tap) : (s.judgeTap t).days = s.days := by
  rcases h : s.tapPupil t with _ | ⟨i, p⟩ <;> simp [State.judgeTap, h, verdictOnly]

/-! `State.judgeOldest`: the roll, the book, the off-site list, the log, the notices, the desk line and the pending classes change -/

@[simp] theorem State.judgeOldest_pending (s : State) : (s.judgeOldest).pending = s.pending := by
  unfold State.judgeOldest; split <;> simp
@[simp] theorem State.judgeOldest_power (s : State) : (s.judgeOldest).power = s.power := by
  unfold State.judgeOldest; split <;> simp
@[simp] theorem State.judgeOldest_params (s : State) : (s.judgeOldest).params = s.params := by
  unfold State.judgeOldest; split <;> simp
@[simp] theorem State.judgeOldest_clock (s : State) : (s.judgeOldest).clock = s.clock := by
  unfold State.judgeOldest; split <;> simp
@[simp] theorem State.judgeOldest_countUps (s : State) : (s.judgeOldest).countUps = s.countUps := by
  unfold State.judgeOldest; split <;> simp
@[simp] theorem State.judgeOldest_cards (s : State) : (s.judgeOldest).cards = s.cards := by
  unfold State.judgeOldest; split <;> simp
@[simp] theorem State.judgeOldest_plans (s : State) : (s.judgeOldest).plans = s.plans := by
  unfold State.judgeOldest; split <;> simp
@[simp] theorem State.judgeOldest_running (s : State) : (s.judgeOldest).running = s.running := by
  unfold State.judgeOldest; split <;> simp
@[simp] theorem State.judgeOldest_ring (s : State) : (s.judgeOldest).ring = s.ring := by
  unfold State.judgeOldest; split <;> simp
@[simp] theorem State.judgeOldest_sweep (s : State) : (s.judgeOldest).sweep = s.sweep := by
  unfold State.judgeOldest; split <;> simp
@[simp] theorem State.judgeOldest_days (s : State) : (s.judgeOldest).days = s.days := by
  unfold State.judgeOldest; split <;> simp

/-! `State.completeSweep`: the running plan, the sweep, the pending classes and the rollover record change -/

@[simp] theorem State.completeSweep_pending (s : State) (f : SweepFlight) : (s.completeSweep f).pending = s.pending := by
  simp [State.completeSweep]
@[simp] theorem State.completeSweep_power (s : State) (f : SweepFlight) : (s.completeSweep f).power = s.power := by
  simp [State.completeSweep]
@[simp] theorem State.completeSweep_params (s : State) (f : SweepFlight) : (s.completeSweep f).params = s.params := by
  simp [State.completeSweep]
@[simp] theorem State.completeSweep_clock (s : State) (f : SweepFlight) : (s.completeSweep f).clock = s.clock := by
  simp [State.completeSweep]
@[simp] theorem State.completeSweep_countUps (s : State) (f : SweepFlight) : (s.completeSweep f).countUps = s.countUps := by
  simp [State.completeSweep]
@[simp] theorem State.completeSweep_roll (s : State) (f : SweepFlight) : (s.completeSweep f).roll = s.roll := by
  simp [State.completeSweep]
@[simp] theorem State.completeSweep_cards (s : State) (f : SweepFlight) : (s.completeSweep f).cards = s.cards := by
  simp [State.completeSweep]
@[simp] theorem State.completeSweep_plans (s : State) (f : SweepFlight) : (s.completeSweep f).plans = s.plans := by
  simp [State.completeSweep]
@[simp] theorem State.completeSweep_ring (s : State) (f : SweepFlight) : (s.completeSweep f).ring = s.ring := by
  simp [State.completeSweep]
@[simp] theorem State.completeSweep_desk (s : State) (f : SweepFlight) : (s.completeSweep f).desk = s.desk := by
  simp [State.completeSweep]
@[simp] theorem State.completeSweep_arrivals (s : State) (f : SweepFlight) : (s.completeSweep f).arrivals = s.arrivals := by
  simp [State.completeSweep]
@[simp] theorem State.completeSweep_book (s : State) (f : SweepFlight) : (s.completeSweep f).book = s.book := by
  simp [State.completeSweep]
@[simp] theorem State.completeSweep_notices (s : State) (f : SweepFlight) : (s.completeSweep f).notices = s.notices := by
  simp [State.completeSweep]

/-! `State.closeDay`: the notices, the book, the off-site list, the log, the counters and the Day Controller change -/

@[simp] theorem State.closeDay_pending (s : State) (r : Rollover) : (s.closeDay r).pending = s.pending := by
  simp only [State.closeDay, State.withDays_pending, State.withDesk_pending, State.withRing_pending, State.withArrivals_pending, State.withBook_pending, State.withNotices_pending]
@[simp] theorem State.closeDay_power (s : State) (r : Rollover) : (s.closeDay r).power = s.power := by
  simp only [State.closeDay, State.withDays_power, State.withDesk_power, State.withRing_power, State.withArrivals_power, State.withBook_power, State.withNotices_power]
@[simp] theorem State.closeDay_link (s : State) (r : Rollover) : (s.closeDay r).link = s.link := by
  simp only [State.closeDay, State.withDays_link, State.withDesk_link, State.withRing_link, State.withArrivals_link, State.withBook_link, State.withNotices_link]
@[simp] theorem State.closeDay_params (s : State) (r : Rollover) : (s.closeDay r).params = s.params := by
  simp only [State.closeDay, State.withDays_params, State.withDesk_params, State.withRing_params, State.withArrivals_params, State.withBook_params, State.withNotices_params]
@[simp] theorem State.closeDay_clock (s : State) (r : Rollover) : (s.closeDay r).clock = s.clock := by
  simp only [State.closeDay, State.withDays_clock, State.withDesk_clock, State.withRing_clock, State.withArrivals_clock, State.withBook_clock, State.withNotices_clock]
@[simp] theorem State.closeDay_countUps (s : State) (r : Rollover) : (s.closeDay r).countUps = s.countUps := by
  simp only [State.closeDay, State.withDays_countUps, State.withDesk_countUps, State.withRing_countUps, State.withArrivals_countUps, State.withBook_countUps, State.withNotices_countUps]
@[simp] theorem State.closeDay_roll (s : State) (r : Rollover) : (s.closeDay r).roll = s.roll := by
  simp only [State.closeDay, State.withDays_roll, State.withDesk_roll, State.withRing_roll, State.withArrivals_roll, State.withBook_roll, State.withNotices_roll]
@[simp] theorem State.closeDay_cards (s : State) (r : Rollover) : (s.closeDay r).cards = s.cards := by
  simp only [State.closeDay, State.withDays_cards, State.withDesk_cards, State.withRing_cards, State.withArrivals_cards, State.withBook_cards, State.withNotices_cards]
@[simp] theorem State.closeDay_plans (s : State) (r : Rollover) : (s.closeDay r).plans = s.plans := by
  simp only [State.closeDay, State.withDays_plans, State.withDesk_plans, State.withRing_plans, State.withArrivals_plans, State.withBook_plans, State.withNotices_plans]
@[simp] theorem State.closeDay_running (s : State) (r : Rollover) : (s.closeDay r).running = s.running := by
  simp only [State.closeDay, State.withDays_running, State.withDesk_running, State.withRing_running, State.withArrivals_running, State.withBook_running, State.withNotices_running]
@[simp] theorem State.closeDay_sweep (s : State) (r : Rollover) : (s.closeDay r).sweep = s.sweep := by
  simp only [State.closeDay, State.withDays_sweep, State.withDesk_sweep, State.withRing_sweep, State.withArrivals_sweep, State.withBook_sweep, State.withNotices_sweep]

/-! `State.clearTerm`: the tallies and the rollover record change -/

@[simp] theorem State.clearTerm_pending (s : State) (r : Rollover) : (s.clearTerm r).pending = s.pending := by
  unfold State.clearTerm; split <;> simp
@[simp] theorem State.clearTerm_power (s : State) (r : Rollover) : (s.clearTerm r).power = s.power := by
  unfold State.clearTerm; split <;> simp
@[simp] theorem State.clearTerm_link (s : State) (r : Rollover) : (s.clearTerm r).link = s.link := by
  unfold State.clearTerm; split <;> simp
@[simp] theorem State.clearTerm_params (s : State) (r : Rollover) : (s.clearTerm r).params = s.params := by
  unfold State.clearTerm; split <;> simp
@[simp] theorem State.clearTerm_clock (s : State) (r : Rollover) : (s.clearTerm r).clock = s.clock := by
  unfold State.clearTerm; split <;> simp
@[simp] theorem State.clearTerm_countUps (s : State) (r : Rollover) : (s.clearTerm r).countUps = s.countUps := by
  unfold State.clearTerm; split <;> simp
@[simp] theorem State.clearTerm_cards (s : State) (r : Rollover) : (s.clearTerm r).cards = s.cards := by
  unfold State.clearTerm; split <;> simp
@[simp] theorem State.clearTerm_plans (s : State) (r : Rollover) : (s.clearTerm r).plans = s.plans := by
  unfold State.clearTerm; split <;> simp
@[simp] theorem State.clearTerm_running (s : State) (r : Rollover) : (s.clearTerm r).running = s.running := by
  unfold State.clearTerm; split <;> simp
@[simp] theorem State.clearTerm_ring (s : State) (r : Rollover) : (s.clearTerm r).ring = s.ring := by
  unfold State.clearTerm; split <;> simp
@[simp] theorem State.clearTerm_desk (s : State) (r : Rollover) : (s.clearTerm r).desk = s.desk := by
  unfold State.clearTerm; split <;> simp
@[simp] theorem State.clearTerm_arrivals (s : State) (r : Rollover) : (s.clearTerm r).arrivals = s.arrivals := by
  unfold State.clearTerm; split <;> simp
@[simp] theorem State.clearTerm_sweep (s : State) (r : Rollover) : (s.clearTerm r).sweep = s.sweep := by
  unfold State.clearTerm; split <;> simp
@[simp] theorem State.clearTerm_book (s : State) (r : Rollover) : (s.clearTerm r).book = s.book := by
  unfold State.clearTerm; split <;> simp
@[simp] theorem State.clearTerm_notices (s : State) (r : Rollover) : (s.clearTerm r).notices = s.notices := by
  unfold State.clearTerm; split <;> simp

/-! `State.newDaySlot`: only the roll changes -/

@[simp] theorem State.newDaySlot_pending (s : State) (r : Rollover) : (s.newDaySlot r).pending = s.pending := by
  unfold State.newDaySlot; (repeat' split) <;> simp
@[simp] theorem State.newDaySlot_power (s : State) (r : Rollover) : (s.newDaySlot r).power = s.power := by
  unfold State.newDaySlot; (repeat' split) <;> simp
@[simp] theorem State.newDaySlot_link (s : State) (r : Rollover) : (s.newDaySlot r).link = s.link := by
  unfold State.newDaySlot; (repeat' split) <;> simp
@[simp] theorem State.newDaySlot_params (s : State) (r : Rollover) : (s.newDaySlot r).params = s.params := by
  unfold State.newDaySlot; (repeat' split) <;> simp
@[simp] theorem State.newDaySlot_clock (s : State) (r : Rollover) : (s.newDaySlot r).clock = s.clock := by
  unfold State.newDaySlot; (repeat' split) <;> simp
@[simp] theorem State.newDaySlot_countUps (s : State) (r : Rollover) : (s.newDaySlot r).countUps = s.countUps := by
  unfold State.newDaySlot; (repeat' split) <;> simp
@[simp] theorem State.newDaySlot_cards (s : State) (r : Rollover) : (s.newDaySlot r).cards = s.cards := by
  unfold State.newDaySlot; (repeat' split) <;> simp
@[simp] theorem State.newDaySlot_plans (s : State) (r : Rollover) : (s.newDaySlot r).plans = s.plans := by
  unfold State.newDaySlot; (repeat' split) <;> simp
@[simp] theorem State.newDaySlot_running (s : State) (r : Rollover) : (s.newDaySlot r).running = s.running := by
  unfold State.newDaySlot; (repeat' split) <;> simp
@[simp] theorem State.newDaySlot_ring (s : State) (r : Rollover) : (s.newDaySlot r).ring = s.ring := by
  unfold State.newDaySlot; (repeat' split) <;> simp
@[simp] theorem State.newDaySlot_desk (s : State) (r : Rollover) : (s.newDaySlot r).desk = s.desk := by
  unfold State.newDaySlot; (repeat' split) <;> simp
@[simp] theorem State.newDaySlot_arrivals (s : State) (r : Rollover) : (s.newDaySlot r).arrivals = s.arrivals := by
  unfold State.newDaySlot; (repeat' split) <;> simp
@[simp] theorem State.newDaySlot_sweep (s : State) (r : Rollover) : (s.newDaySlot r).sweep = s.sweep := by
  unfold State.newDaySlot; (repeat' split) <;> simp
@[simp] theorem State.newDaySlot_book (s : State) (r : Rollover) : (s.newDaySlot r).book = s.book := by
  unfold State.newDaySlot; (repeat' split) <;> simp
@[simp] theorem State.newDaySlot_notices (s : State) (r : Rollover) : (s.newDaySlot r).notices = s.notices := by
  unfold State.newDaySlot; (repeat' split) <;> simp
@[simp] theorem State.newDaySlot_days (s : State) (r : Rollover) : (s.newDaySlot r).days = s.days := by
  unfold State.newDaySlot; (repeat' split) <;> simp

/-! `State.buildPlans`: the running plans and the rollover record change -/

@[simp] theorem State.buildPlans_pending (s : State) (r : Rollover) : (s.buildPlans r).pending = s.pending := by
  rfl
@[simp] theorem State.buildPlans_power (s : State) (r : Rollover) : (s.buildPlans r).power = s.power := by
  rfl
@[simp] theorem State.buildPlans_link (s : State) (r : Rollover) : (s.buildPlans r).link = s.link := by
  rfl
@[simp] theorem State.buildPlans_params (s : State) (r : Rollover) : (s.buildPlans r).params = s.params := by
  rfl
@[simp] theorem State.buildPlans_clock (s : State) (r : Rollover) : (s.buildPlans r).clock = s.clock := by
  rfl
@[simp] theorem State.buildPlans_countUps (s : State) (r : Rollover) : (s.buildPlans r).countUps = s.countUps := by
  rfl
@[simp] theorem State.buildPlans_roll (s : State) (r : Rollover) : (s.buildPlans r).roll = s.roll := by
  rfl
@[simp] theorem State.buildPlans_cards (s : State) (r : Rollover) : (s.buildPlans r).cards = s.cards := by
  rfl
@[simp] theorem State.buildPlans_plans (s : State) (r : Rollover) : (s.buildPlans r).plans = s.plans := by
  rfl
@[simp] theorem State.buildPlans_ring (s : State) (r : Rollover) : (s.buildPlans r).ring = s.ring := by
  rfl
@[simp] theorem State.buildPlans_desk (s : State) (r : Rollover) : (s.buildPlans r).desk = s.desk := by
  rfl
@[simp] theorem State.buildPlans_arrivals (s : State) (r : Rollover) : (s.buildPlans r).arrivals = s.arrivals := by
  rfl
@[simp] theorem State.buildPlans_sweep (s : State) (r : Rollover) : (s.buildPlans r).sweep = s.sweep := by
  rfl
@[simp] theorem State.buildPlans_book (s : State) (r : Rollover) : (s.buildPlans r).book = s.book := by
  rfl
@[simp] theorem State.buildPlans_notices (s : State) (r : Rollover) : (s.buildPlans r).notices = s.notices := by
  rfl

/-! `State.completeRollover`: the Day Controller and the pending classes change -/

@[simp] theorem State.completeRollover_pending (s : State) (r : Rollover) : (s.completeRollover r).pending = s.pending := by
  unfold State.completeRollover; dsimp only; split <;> simp
@[simp] theorem State.completeRollover_power (s : State) (r : Rollover) : (s.completeRollover r).power = s.power := by
  unfold State.completeRollover; dsimp only; split <;> simp
@[simp] theorem State.completeRollover_params (s : State) (r : Rollover) : (s.completeRollover r).params = s.params := by
  unfold State.completeRollover; dsimp only; split <;> simp
@[simp] theorem State.completeRollover_clock (s : State) (r : Rollover) : (s.completeRollover r).clock = s.clock := by
  unfold State.completeRollover; dsimp only; split <;> simp
@[simp] theorem State.completeRollover_countUps (s : State) (r : Rollover) : (s.completeRollover r).countUps = s.countUps := by
  unfold State.completeRollover; dsimp only; split <;> simp
@[simp] theorem State.completeRollover_roll (s : State) (r : Rollover) : (s.completeRollover r).roll = s.roll := by
  unfold State.completeRollover; dsimp only; split <;> simp
@[simp] theorem State.completeRollover_cards (s : State) (r : Rollover) : (s.completeRollover r).cards = s.cards := by
  unfold State.completeRollover; dsimp only; split <;> simp
@[simp] theorem State.completeRollover_plans (s : State) (r : Rollover) : (s.completeRollover r).plans = s.plans := by
  unfold State.completeRollover; dsimp only; split <;> simp
@[simp] theorem State.completeRollover_running (s : State) (r : Rollover) : (s.completeRollover r).running = s.running := by
  unfold State.completeRollover; dsimp only; split <;> simp
@[simp] theorem State.completeRollover_ring (s : State) (r : Rollover) : (s.completeRollover r).ring = s.ring := by
  unfold State.completeRollover; dsimp only; split <;> simp
@[simp] theorem State.completeRollover_desk (s : State) (r : Rollover) : (s.completeRollover r).desk = s.desk := by
  unfold State.completeRollover; dsimp only; split <;> simp
@[simp] theorem State.completeRollover_arrivals (s : State) (r : Rollover) : (s.completeRollover r).arrivals = s.arrivals := by
  unfold State.completeRollover; dsimp only; split <;> simp
@[simp] theorem State.completeRollover_sweep (s : State) (r : Rollover) : (s.completeRollover r).sweep = s.sweep := by
  unfold State.completeRollover; dsimp only; split <;> simp
@[simp] theorem State.completeRollover_book (s : State) (r : Rollover) : (s.completeRollover r).book = s.book := by
  unfold State.completeRollover; dsimp only; split <;> simp
@[simp] theorem State.completeRollover_notices (s : State) (r : Rollover) : (s.completeRollover r).notices = s.notices := by
  unfold State.completeRollover; dsimp only; split <;> simp

/-! `State.stopBlocks`: the link, the desk line, the rings, the sweeps and the count-ups handed on change -/

@[simp] theorem State.stopBlocks_pending (s : State) : (s.stopBlocks).pending = s.pending := by
  simp [State.stopBlocks]
@[simp] theorem State.stopBlocks_power (s : State) : (s.stopBlocks).power = s.power := by
  simp [State.stopBlocks]
@[simp] theorem State.stopBlocks_params (s : State) : (s.stopBlocks).params = s.params := by
  simp [State.stopBlocks]
@[simp] theorem State.stopBlocks_clock (s : State) : (s.stopBlocks).clock = s.clock := by
  simp [State.stopBlocks]
@[simp] theorem State.stopBlocks_roll (s : State) : (s.stopBlocks).roll = s.roll := by
  simp [State.stopBlocks]
@[simp] theorem State.stopBlocks_cards (s : State) : (s.stopBlocks).cards = s.cards := by
  simp [State.stopBlocks]
@[simp] theorem State.stopBlocks_plans (s : State) : (s.stopBlocks).plans = s.plans := by
  simp [State.stopBlocks]
@[simp] theorem State.stopBlocks_running (s : State) : (s.stopBlocks).running = s.running := by
  simp [State.stopBlocks]
@[simp] theorem State.stopBlocks_arrivals (s : State) : (s.stopBlocks).arrivals = s.arrivals := by
  simp [State.stopBlocks]
@[simp] theorem State.stopBlocks_book (s : State) : (s.stopBlocks).book = s.book := by
  simp [State.stopBlocks]
@[simp] theorem State.stopBlocks_notices (s : State) : (s.stopBlocks).notices = s.notices := by
  simp [State.stopBlocks]
@[simp] theorem State.stopBlocks_days (s : State) : (s.stopBlocks).days = s.days := by
  simp [State.stopBlocks]

/-! `State.enterRetain`: the power record and what stops change -/

@[simp] theorem State.enterRetain_pending (s : State) : (s.enterRetain).pending = s.pending := by
  simp [State.enterRetain]
@[simp] theorem State.enterRetain_params (s : State) : (s.enterRetain).params = s.params := by
  simp [State.enterRetain]
@[simp] theorem State.enterRetain_clock (s : State) : (s.enterRetain).clock = s.clock := by
  simp [State.enterRetain]
@[simp] theorem State.enterRetain_roll (s : State) : (s.enterRetain).roll = s.roll := by
  simp [State.enterRetain]
@[simp] theorem State.enterRetain_cards (s : State) : (s.enterRetain).cards = s.cards := by
  simp [State.enterRetain]
@[simp] theorem State.enterRetain_plans (s : State) : (s.enterRetain).plans = s.plans := by
  simp [State.enterRetain]
@[simp] theorem State.enterRetain_running (s : State) : (s.enterRetain).running = s.running := by
  simp [State.enterRetain]
@[simp] theorem State.enterRetain_arrivals (s : State) : (s.enterRetain).arrivals = s.arrivals := by
  simp [State.enterRetain]
@[simp] theorem State.enterRetain_book (s : State) : (s.enterRetain).book = s.book := by
  simp [State.enterRetain]
@[simp] theorem State.enterRetain_notices (s : State) : (s.enterRetain).notices = s.notices := by
  simp [State.enterRetain]
@[simp] theorem State.enterRetain_days (s : State) : (s.enterRetain).days = s.days := by
  simp [State.enterRetain]

/-! `State.warmStart`: what a start writes changes -/

@[simp] theorem State.warmStart_pending (s : State) (c : StartCause) : (s.warmStart c).pending = s.pending := by
  simp [State.warmStart]
@[simp] theorem State.warmStart_params (s : State) (c : StartCause) : (s.warmStart c).params = s.params := by
  simp [State.warmStart]
@[simp] theorem State.warmStart_clock (s : State) (c : StartCause) : (s.warmStart c).clock = s.clock := by
  simp [State.warmStart]
@[simp] theorem State.warmStart_roll (s : State) (c : StartCause) : (s.warmStart c).roll = s.roll := by
  simp [State.warmStart]
@[simp] theorem State.warmStart_cards (s : State) (c : StartCause) : (s.warmStart c).cards = s.cards := by
  simp [State.warmStart]
@[simp] theorem State.warmStart_plans (s : State) (c : StartCause) : (s.warmStart c).plans = s.plans := by
  simp [State.warmStart]
@[simp] theorem State.warmStart_running (s : State) (c : StartCause) : (s.warmStart c).running = s.running := by
  simp [State.warmStart]
@[simp] theorem State.warmStart_arrivals (s : State) (c : StartCause) : (s.warmStart c).arrivals = s.arrivals := by
  simp [State.warmStart]
@[simp] theorem State.warmStart_book (s : State) (c : StartCause) : (s.warmStart c).book = s.book := by
  simp [State.warmStart]

/-! `State.releaseOldest`: the notices and the count-ups handed on change -/

@[simp] theorem State.releaseOldest_pending (s : State) : (s.releaseOldest).pending = s.pending := by
  unfold State.releaseOldest; (repeat' split) <;> simp
@[simp] theorem State.releaseOldest_power (s : State) : (s.releaseOldest).power = s.power := by
  unfold State.releaseOldest; (repeat' split) <;> simp
@[simp] theorem State.releaseOldest_link (s : State) : (s.releaseOldest).link = s.link := by
  unfold State.releaseOldest; (repeat' split) <;> simp
@[simp] theorem State.releaseOldest_params (s : State) : (s.releaseOldest).params = s.params := by
  unfold State.releaseOldest; (repeat' split) <;> simp
@[simp] theorem State.releaseOldest_clock (s : State) : (s.releaseOldest).clock = s.clock := by
  unfold State.releaseOldest; (repeat' split) <;> simp
@[simp] theorem State.releaseOldest_roll (s : State) : (s.releaseOldest).roll = s.roll := by
  unfold State.releaseOldest; (repeat' split) <;> simp
@[simp] theorem State.releaseOldest_cards (s : State) : (s.releaseOldest).cards = s.cards := by
  unfold State.releaseOldest; (repeat' split) <;> simp
@[simp] theorem State.releaseOldest_plans (s : State) : (s.releaseOldest).plans = s.plans := by
  unfold State.releaseOldest; (repeat' split) <;> simp
@[simp] theorem State.releaseOldest_running (s : State) : (s.releaseOldest).running = s.running := by
  unfold State.releaseOldest; (repeat' split) <;> simp
@[simp] theorem State.releaseOldest_ring (s : State) : (s.releaseOldest).ring = s.ring := by
  unfold State.releaseOldest; (repeat' split) <;> simp
@[simp] theorem State.releaseOldest_desk (s : State) : (s.releaseOldest).desk = s.desk := by
  unfold State.releaseOldest; (repeat' split) <;> simp
@[simp] theorem State.releaseOldest_arrivals (s : State) : (s.releaseOldest).arrivals = s.arrivals := by
  unfold State.releaseOldest; (repeat' split) <;> simp
@[simp] theorem State.releaseOldest_sweep (s : State) : (s.releaseOldest).sweep = s.sweep := by
  unfold State.releaseOldest; (repeat' split) <;> simp
@[simp] theorem State.releaseOldest_book (s : State) : (s.releaseOldest).book = s.book := by
  unfold State.releaseOldest; (repeat' split) <;> simp
@[simp] theorem State.releaseOldest_days (s : State) : (s.releaseOldest).days = s.days := by
  unfold State.releaseOldest; (repeat' split) <;> simp

/-! `State.timeoutOldest`: the notices and the count-ups handed on change -/

@[simp] theorem State.timeoutOldest_pending (s : State) : (s.timeoutOldest).pending = s.pending := by
  unfold State.timeoutOldest; (repeat' split) <;> simp
@[simp] theorem State.timeoutOldest_power (s : State) : (s.timeoutOldest).power = s.power := by
  unfold State.timeoutOldest; (repeat' split) <;> simp
@[simp] theorem State.timeoutOldest_link (s : State) : (s.timeoutOldest).link = s.link := by
  unfold State.timeoutOldest; (repeat' split) <;> simp
@[simp] theorem State.timeoutOldest_params (s : State) : (s.timeoutOldest).params = s.params := by
  unfold State.timeoutOldest; (repeat' split) <;> simp
@[simp] theorem State.timeoutOldest_clock (s : State) : (s.timeoutOldest).clock = s.clock := by
  unfold State.timeoutOldest; (repeat' split) <;> simp
@[simp] theorem State.timeoutOldest_roll (s : State) : (s.timeoutOldest).roll = s.roll := by
  unfold State.timeoutOldest; (repeat' split) <;> simp
@[simp] theorem State.timeoutOldest_cards (s : State) : (s.timeoutOldest).cards = s.cards := by
  unfold State.timeoutOldest; (repeat' split) <;> simp
@[simp] theorem State.timeoutOldest_plans (s : State) : (s.timeoutOldest).plans = s.plans := by
  unfold State.timeoutOldest; (repeat' split) <;> simp
@[simp] theorem State.timeoutOldest_running (s : State) : (s.timeoutOldest).running = s.running := by
  unfold State.timeoutOldest; (repeat' split) <;> simp
@[simp] theorem State.timeoutOldest_ring (s : State) : (s.timeoutOldest).ring = s.ring := by
  unfold State.timeoutOldest; (repeat' split) <;> simp
@[simp] theorem State.timeoutOldest_desk (s : State) : (s.timeoutOldest).desk = s.desk := by
  unfold State.timeoutOldest; (repeat' split) <;> simp
@[simp] theorem State.timeoutOldest_arrivals (s : State) : (s.timeoutOldest).arrivals = s.arrivals := by
  unfold State.timeoutOldest; (repeat' split) <;> simp
@[simp] theorem State.timeoutOldest_sweep (s : State) : (s.timeoutOldest).sweep = s.sweep := by
  unfold State.timeoutOldest; (repeat' split) <;> simp
@[simp] theorem State.timeoutOldest_book (s : State) : (s.timeoutOldest).book = s.book := by
  unfold State.timeoutOldest; (repeat' split) <;> simp
@[simp] theorem State.timeoutOldest_days (s : State) : (s.timeoutOldest).days = s.days := by
  unfold State.timeoutOldest; (repeat' split) <;> simp

/-! `State.writeRecords`: the roll, the card index and the notices change. -/

@[simp] theorem State.writeRecords_pending (s : State) (i n : Nat) (l : List RollItem) :
    (s.writeRecords i n l).1.pending = s.pending := by
  induction l generalizing s i n with
  | nil => rfl
  | cons r l ih => unfold State.writeRecords; split <;> simp [ih]
@[simp] theorem State.writeRecords_power (s : State) (i n : Nat) (l : List RollItem) :
    (s.writeRecords i n l).1.power = s.power := by
  induction l generalizing s i n with
  | nil => rfl
  | cons r l ih => unfold State.writeRecords; split <;> simp [ih]
@[simp] theorem State.writeRecords_link (s : State) (i n : Nat) (l : List RollItem) :
    (s.writeRecords i n l).1.link = s.link := by
  induction l generalizing s i n with
  | nil => rfl
  | cons r l ih => unfold State.writeRecords; split <;> simp [ih]
@[simp] theorem State.writeRecords_params (s : State) (i n : Nat) (l : List RollItem) :
    (s.writeRecords i n l).1.params = s.params := by
  induction l generalizing s i n with
  | nil => rfl
  | cons r l ih => unfold State.writeRecords; split <;> simp [ih]
@[simp] theorem State.writeRecords_clock (s : State) (i n : Nat) (l : List RollItem) :
    (s.writeRecords i n l).1.clock = s.clock := by
  induction l generalizing s i n with
  | nil => rfl
  | cons r l ih => unfold State.writeRecords; split <;> simp [ih]
@[simp] theorem State.writeRecords_countUps (s : State) (i n : Nat) (l : List RollItem) :
    (s.writeRecords i n l).1.countUps = s.countUps := by
  induction l generalizing s i n with
  | nil => rfl
  | cons r l ih => unfold State.writeRecords; split <;> simp [ih]
@[simp] theorem State.writeRecords_plans (s : State) (i n : Nat) (l : List RollItem) :
    (s.writeRecords i n l).1.plans = s.plans := by
  induction l generalizing s i n with
  | nil => rfl
  | cons r l ih => unfold State.writeRecords; split <;> simp [ih]
@[simp] theorem State.writeRecords_running (s : State) (i n : Nat) (l : List RollItem) :
    (s.writeRecords i n l).1.running = s.running := by
  induction l generalizing s i n with
  | nil => rfl
  | cons r l ih => unfold State.writeRecords; split <;> simp [ih]
@[simp] theorem State.writeRecords_ring (s : State) (i n : Nat) (l : List RollItem) :
    (s.writeRecords i n l).1.ring = s.ring := by
  induction l generalizing s i n with
  | nil => rfl
  | cons r l ih => unfold State.writeRecords; split <;> simp [ih]
@[simp] theorem State.writeRecords_desk (s : State) (i n : Nat) (l : List RollItem) :
    (s.writeRecords i n l).1.desk = s.desk := by
  induction l generalizing s i n with
  | nil => rfl
  | cons r l ih => unfold State.writeRecords; split <;> simp [ih]
@[simp] theorem State.writeRecords_arrivals (s : State) (i n : Nat) (l : List RollItem) :
    (s.writeRecords i n l).1.arrivals = s.arrivals := by
  induction l generalizing s i n with
  | nil => rfl
  | cons r l ih => unfold State.writeRecords; split <;> simp [ih]
@[simp] theorem State.writeRecords_sweep (s : State) (i n : Nat) (l : List RollItem) :
    (s.writeRecords i n l).1.sweep = s.sweep := by
  induction l generalizing s i n with
  | nil => rfl
  | cons r l ih => unfold State.writeRecords; split <;> simp [ih]
@[simp] theorem State.writeRecords_book (s : State) (i n : Nat) (l : List RollItem) :
    (s.writeRecords i n l).1.book = s.book := by
  induction l generalizing s i n with
  | nil => rfl
  | cons r l ih => unfold State.writeRecords; split <;> simp [ih]
@[simp] theorem State.writeRecords_days (s : State) (i n : Nat) (l : List RollItem) :
    (s.writeRecords i n l).1.days = s.days := by
  induction l generalizing s i n with
  | nil => rfl
  | cons r l ih => unfold State.writeRecords; split <;> simp [ih]

/-! `State.deliver` and `State.applyOutcome`: the roll, the notices and the pending classes change. -/

@[simp] theorem State.deliver_pending (s : State) (n : Notice) : (s.deliver n).1.pending = s.pending := by
  unfold State.deliver; (repeat' split) <;> simp
@[simp] theorem State.applyOutcome_pending (s : State) (n : Notice) (d : Delivery) :
    (s.applyOutcome n d).1.pending = s.pending := by
  cases d <;> unfold State.applyOutcome <;> (repeat' split) <;> simp
@[simp] theorem State.deliver_power (s : State) (n : Notice) : (s.deliver n).1.power = s.power := by
  unfold State.deliver; (repeat' split) <;> simp
@[simp] theorem State.applyOutcome_power (s : State) (n : Notice) (d : Delivery) :
    (s.applyOutcome n d).1.power = s.power := by
  cases d <;> unfold State.applyOutcome <;> (repeat' split) <;> simp
@[simp] theorem State.deliver_params (s : State) (n : Notice) : (s.deliver n).1.params = s.params := by
  unfold State.deliver; (repeat' split) <;> simp
@[simp] theorem State.applyOutcome_params (s : State) (n : Notice) (d : Delivery) :
    (s.applyOutcome n d).1.params = s.params := by
  cases d <;> unfold State.applyOutcome <;> (repeat' split) <;> simp
@[simp] theorem State.deliver_clock (s : State) (n : Notice) : (s.deliver n).1.clock = s.clock := by
  unfold State.deliver; (repeat' split) <;> simp
@[simp] theorem State.applyOutcome_clock (s : State) (n : Notice) (d : Delivery) :
    (s.applyOutcome n d).1.clock = s.clock := by
  cases d <;> unfold State.applyOutcome <;> (repeat' split) <;> simp
@[simp] theorem State.deliver_countUps (s : State) (n : Notice) : (s.deliver n).1.countUps = s.countUps := by
  unfold State.deliver; (repeat' split) <;> simp
@[simp] theorem State.applyOutcome_countUps (s : State) (n : Notice) (d : Delivery) :
    (s.applyOutcome n d).1.countUps = s.countUps := by
  cases d <;> unfold State.applyOutcome <;> (repeat' split) <;> simp
@[simp] theorem State.deliver_cards (s : State) (n : Notice) : (s.deliver n).1.cards = s.cards := by
  unfold State.deliver; (repeat' split) <;> simp
@[simp] theorem State.applyOutcome_cards (s : State) (n : Notice) (d : Delivery) :
    (s.applyOutcome n d).1.cards = s.cards := by
  cases d <;> unfold State.applyOutcome <;> (repeat' split) <;> simp
@[simp] theorem State.deliver_plans (s : State) (n : Notice) : (s.deliver n).1.plans = s.plans := by
  unfold State.deliver; (repeat' split) <;> simp
@[simp] theorem State.applyOutcome_plans (s : State) (n : Notice) (d : Delivery) :
    (s.applyOutcome n d).1.plans = s.plans := by
  cases d <;> unfold State.applyOutcome <;> (repeat' split) <;> simp
@[simp] theorem State.deliver_running (s : State) (n : Notice) : (s.deliver n).1.running = s.running := by
  unfold State.deliver; (repeat' split) <;> simp
@[simp] theorem State.applyOutcome_running (s : State) (n : Notice) (d : Delivery) :
    (s.applyOutcome n d).1.running = s.running := by
  cases d <;> unfold State.applyOutcome <;> (repeat' split) <;> simp
@[simp] theorem State.deliver_ring (s : State) (n : Notice) : (s.deliver n).1.ring = s.ring := by
  unfold State.deliver; (repeat' split) <;> simp
@[simp] theorem State.applyOutcome_ring (s : State) (n : Notice) (d : Delivery) :
    (s.applyOutcome n d).1.ring = s.ring := by
  cases d <;> unfold State.applyOutcome <;> (repeat' split) <;> simp
@[simp] theorem State.deliver_desk (s : State) (n : Notice) : (s.deliver n).1.desk = s.desk := by
  unfold State.deliver; (repeat' split) <;> simp
@[simp] theorem State.applyOutcome_desk (s : State) (n : Notice) (d : Delivery) :
    (s.applyOutcome n d).1.desk = s.desk := by
  cases d <;> unfold State.applyOutcome <;> (repeat' split) <;> simp
@[simp] theorem State.deliver_arrivals (s : State) (n : Notice) : (s.deliver n).1.arrivals = s.arrivals := by
  unfold State.deliver; (repeat' split) <;> simp
@[simp] theorem State.applyOutcome_arrivals (s : State) (n : Notice) (d : Delivery) :
    (s.applyOutcome n d).1.arrivals = s.arrivals := by
  cases d <;> unfold State.applyOutcome <;> (repeat' split) <;> simp
@[simp] theorem State.deliver_sweep (s : State) (n : Notice) : (s.deliver n).1.sweep = s.sweep := by
  unfold State.deliver; (repeat' split) <;> simp
@[simp] theorem State.applyOutcome_sweep (s : State) (n : Notice) (d : Delivery) :
    (s.applyOutcome n d).1.sweep = s.sweep := by
  cases d <;> unfold State.applyOutcome <;> (repeat' split) <;> simp
@[simp] theorem State.deliver_book (s : State) (n : Notice) : (s.deliver n).1.book = s.book := by
  unfold State.deliver; (repeat' split) <;> simp
@[simp] theorem State.applyOutcome_book (s : State) (n : Notice) (d : Delivery) :
    (s.applyOutcome n d).1.book = s.book := by
  cases d <;> unfold State.applyOutcome <;> (repeat' split) <;> simp
@[simp] theorem State.deliver_days (s : State) (n : Notice) : (s.deliver n).1.days = s.days := by
  unfold State.deliver; (repeat' split) <;> simp
@[simp] theorem State.applyOutcome_days (s : State) (n : Notice) (d : Delivery) :
    (s.applyOutcome n d).1.days = s.days := by
  cases d <;> unfold State.applyOutcome <;> (repeat' split) <;> simp

end Sys2Proof.Machine
end

