-- ==== Sys2Proof/Laws/Operations.lean ====
section
/-! SUPPORT. What each shared operation writes, said once for each: the field an operation is for, in terms of the state
before it. What it leaves alone stands in Laws/Touches.lean. -/

namespace Sys2Proof.Machine

/-! ### Reads after writes -/

theorem State.pupilAt_putPupil (s : State) (i j : Nat) (p : Pupil) :
    (s.putPupil i p).pupilAt j = if i = j then some p else s.pupilAt j := by
  simp only [State.pupilAt, State.putPupil, State.withRoll_roll]
  rw [keyGet_keyPut]

theorem State.plan_withPlan (s : State) (t u : Track) (r : RunningPlan) :
    (s.withPlan t r).plan u = if u = t then r else s.plan u := by
  simp only [State.plan, State.withPlan, State.withRunning_running, Fin.getElem_fin, Vector.getElem_set]
  by_cases h : u = t
  · subst h; simp
  · have : t.val ≠ u.val := fun e => h (Fin.ext e.symm)
    simp [h, this]

theorem State.terminal_putTerminal (s : State) (t u : Fin 4) (v : Terminal) :
    (s.putTerminal t v).terminal u = if u = t then v else s.terminal u := by
  simp only [State.terminal, State.putTerminal, State.withDesk_desk, Fin.getElem_fin, Vector.getElem_set]
  by_cases h : u = t
  · subst h; simp
  · have : t.val ≠ u.val := fun e => h (Fin.ext e.symm)
    simp [h, this]

@[simp] theorem Pupil.mark_withMark_same (p : Pupil) (k : Session) (m : Mark) : (p.withMark k m).mark k = m := by
  cases k <;> rfl

theorem Pupil.mark_withMark_other (p : Pupil) {k j : Session} (m : Mark) (h : j ≠ k) :
    (p.withMark k m).mark j = p.mark j := by
  cases k <;> cases j <;> first | rfl | exact absurd rfl h

@[simp] theorem RunningPlan.session_withSession_same (r : RunningPlan) (k : Session) (v : SessionState) :
    (r.withSession k v).session k = some v := by
  cases k <;> rfl

theorem RunningPlan.session_withSession_other (r : RunningPlan) {k j : Session} (v : SessionState) (h : j ≠ k) :
    (r.withSession k v).session j = r.session j := by
  cases k <;> cases j <;> first | rfl | exact absurd rfl h

/-! ### Counters -/

theorem bump_le {n : Nat} (h : n ≤ Config.counterTop) : bump n ≤ Config.counterTop := by
  unfold bump; split <;> omega

theorem wrapNext_le (n : Nat) : wrapNext n ≤ Config.counterTop := by
  unfold wrapNext; split <;> omega

theorem bump_eq_min (n : Nat) (h : n ≤ 65535) : bump n = min 65535 (n + 1) := by
  by_cases hn : n < 65535
  · rw [bump, if_pos (show n < Config.counterTop from hn)]; omega
  · rw [bump, if_neg (show ¬ n < Config.counterTop from hn)]; omega

/-! ### Day counters of the Notice Queue (R167) -/

@[simp] theorem NoticeQueue.count_list (q : NoticeQueue) (d : DayCount) : (q.count d).list = q.list := by
  unfold NoticeQueue.count; split <;> rfl

@[simp] theorem NoticeQueue.count_nextCreation (q : NoticeQueue) (d : DayCount) :
    (q.count d).nextCreation = q.nextCreation := by
  unfold NoticeQueue.count; split <;> rfl

@[simp] theorem NoticeQueue.count_order (q : NoticeQueue) (d : DayCount) : (q.count d).order = q.order := by
  unfold NoticeQueue.count; split <;> rfl

@[simp] theorem NoticeQueue.count_hold (q : NoticeQueue) (d : DayCount) : (q.count d).hold = q.hold := by
  unfold NoticeQueue.count; split <;> rfl

/-- Below the top a counter rises by one and nothing else changes. -/
theorem NoticeQueue.count_below (q : NoticeQueue) (d : DayCount) (h : q.counters.get d < 65535) :
    q.count d = { q with counters := q.counters.put d (q.counters.get d + 1) } := by
  simp [NoticeQueue.count, Config.counterTop, h]

@[simp] theorem NoticeCounters.get_put_same (c : NoticeCounters) (d : DayCount) (n : Nat) : (c.put d n).get d = n := by
  cases d <;> rfl

theorem NoticeCounters.get_put_other (c : NoticeCounters) {d e : DayCount} (n : Nat) (h : e ≠ d) :
    (c.put d n).get e = c.get e := by
  cases d <;> cases e <;> first | rfl | exact absurd rfl h

@[simp] theorem NoticeQueue.countMany_list (q : NoticeQueue) (d : DayCount) (n : Nat) :
    (q.countMany d n).list = q.list := by
  induction n with
  | zero => rfl
  | succ n ih => simp [NoticeQueue.countMany, ih]

@[simp] theorem NoticeQueue.countMany_nextCreation (q : NoticeQueue) (d : DayCount) (n : Nat) :
    (q.countMany d n).nextCreation = q.nextCreation := by
  induction n with
  | zero => rfl
  | succ n ih => simp [NoticeQueue.countMany, ih]

@[simp] theorem NoticeQueue.countMany_order (q : NoticeQueue) (d : DayCount) (n : Nat) :
    (q.countMany d n).order = q.order := by
  induction n with
  | zero => rfl
  | succ n ih => simp [NoticeQueue.countMany, ih]

@[simp] theorem NoticeQueue.countMany_hold (q : NoticeQueue) (d : DayCount) (n : Nat) :
    (q.countMany d n).hold = q.hold := by
  induction n with
  | zero => rfl
  | succ n ih => simp [NoticeQueue.countMany, ih]

/-- Counting several, below the top, adds their number. -/
theorem NoticeQueue.countMany_below (q : NoticeQueue) (d : DayCount) (n : Nat) (h : q.counters.get d + n ≤ 65535) :
    q.countMany d n = { q with counters := q.counters.put d (q.counters.get d + n) } := by
  induction n with
  | zero => cases d <;> rfl
  | succ n ih =>
    rw [NoticeQueue.countMany, ih (by omega), NoticeQueue.count_below _ _ (by simp; omega)]
    cases d <;> simp [NoticeCounters.put, NoticeCounters.get, Nat.add_assoc]

/-! ### Offers and removals (R154, R155, R161 to R167) -/

/-- A removal takes the notice of that slot out of the list. -/
theorem NoticeQueue.remove_list (q : NoticeQueue) (n : Notice) (d : DayCount) :
    (q.remove n d).list = q.list.filter fun m => m.slot ≠ n.slot := by
  simp [NoticeQueue.remove]

theorem NoticeQueue.take_matched {q : NoticeQueue} {now : Nat} {o : Offer}
    (h : (q.list.any fun n => n.matchesOffer o) = true) :
    q.take now o = { queue := q, loss := false, created := none } := by
  simp only [NoticeQueue.take, h, if_true]

theorem NoticeQueue.take_room {q : NoticeQueue} {now : Nat} {o : Offer}
    (h : (q.list.any fun n => n.matchesOffer o) = false) (hr : q.list.length < 192) :
    q.take now o = q.create now o false := by
  simp [NoticeQueue.take, h, Config.notices, hr]

theorem NoticeQueue.take_evicts {q : NoticeQueue} {now : Nat} {o : Offer} {n : Notice}
    (h : (q.list.any fun n => n.matchesOffer o) = false) (hr : 192 ≤ q.list.length) (hv : q.victim o = some n) :
    q.take now o = (q.remove n .evicted).create now o true := by
  have : ¬ q.list.length < 192 := by omega
  simp [NoticeQueue.take, h, Config.notices, this, hv]

theorem NoticeQueue.take_drops {q : NoticeQueue} {now : Nat} {o : Offer}
    (h : (q.list.any fun n => n.matchesOffer o) = false) (hr : 192 ≤ q.list.length) (hv : q.victim o = none) :
    q.take now o = { queue := q.count .dropped, loss := true, created := none } := by
  have : ¬ q.list.length < 192 := by omega
  simp [NoticeQueue.take, h, Config.notices, this, hv]

theorem State.offer_matched {s : State} {o : Offer} (h : (s.notices.list.any fun n => n.matchesOffer o) = true) :
    s.offer o = s := by
  rw [State.offer, NoticeQueue.take_matched h]
  rfl

/-- The fields of a notice that a supersede mode leaves alone. -/
theorem Notice.supersede_fields (n : Notice) (m : Supersede) :
    (n.supersede m).slot = n.slot ∧ (n.supersede m).creation = n.creation ∧ (n.supersede m).kind = n.kind ∧
      (n.supersede m).pupil = n.pupil ∧ (n.supersede m).number = n.number ∧ (n.supersede m).date = n.date ∧
      (n.supersede m).attempts = n.attempts ∧ (n.supersede m).isHanded = n.isHanded := by
  unfold Notice.supersede
  split
  · rename_i h
    simp [Notice.isHanded, h]
  · exact ⟨rfl, rfl, rfl, rfl, rfl, rfl, rfl, rfl⟩

/-! ### The Roll Store (R11, R20) -/

/-- R11: a replacement writes the tallied pupil with the new mark, and no other slot. -/
theorem State.replaceMark_roll (s : State) (i : Nat) (p : Pupil) (k : Session) (w : MarkWrite) :
    (s.replaceMark i p k w).roll = keyPut i ((p.tallied k w).withMark k (p.written k w)) s.roll := by
  unfold State.replaceMark
  dsimp only
  split <;> split <;> (try split) <;> simp [State.putPupil]

/-- R20: what a reversal leaves of a pupil. -/
theorem Pupil.reverse_fields (p : Pupil) (m : Mark) :
    (p.reverse m).card = p.card ∧ (p.reverse m).number = p.number ∧ (p.reverse m).track = p.track ∧
      (p.reverse m).contact = p.contact ∧ (p.reverse m).mark1 = p.mark1 ∧ (p.reverse m).mark2 = p.mark2 :=
  ⟨rfl, rfl, rfl, rfl, rfl, rfl⟩

/-! ### The book (R140) -/

/-- R140: the entry that covers a session is the one of the pupil and today, where its scope covers it. -/
theorem State.coveringEntry_eq (s : State) (i : Nat) (k : Session) :
    s.coveringEntry i k = (s.bookEntry i s.days.today).filter fun e => e.scope.covers k := by
  unfold State.coveringEntry
  cases s.bookEntry i s.days.today <;> simp [Option.filter]

/-- R140: a scope covers a session where it is BOTH, ARRIVING_LATE or that session's own. -/
theorem Scope.covers_eq (c : Scope) (k : Session) :
    c.covers k = (c = .both || c = .arrivingLate || c = (match k with
      | .s1 => .s1
      | .s2 => .s2)) := by cases c <;> cases k <;> rfl

/-! ### Withdrawals (R164) -/

/-- R164: which notice a withdrawal names. -/
theorem Notice.isAbsenceOf_iff (n : Notice) (i d : Nat) (k : Session) :
    n.isAbsenceOf i d k = true ↔ n.kind = .absence k ∧ n.pupil = i ∧ n.date = d := by
  simp [Notice.isAbsenceOf, and_assoc]

/-- R164: with no such notice a withdrawal changes nothing. -/
theorem NoticeQueue.withdraw_absent {q : NoticeQueue} {i d : Nat} {k : Session} (a : Bool)
    (h : q.list.find? (fun n => n.isAbsenceOf i d k) = none) : q.withdraw i d k a = q := by
  simp [NoticeQueue.withdraw, h]

/-- R164: a HELD or READY notice is removed as withdrawn. -/
theorem NoticeQueue.withdraw_out {q : NoticeQueue} {i d : Nat} {k : Session} {n : Notice} (a : Bool)
    (h : q.list.find? (fun n => n.isAbsenceOf i d k) = some n) (hn : n.isHanded = false) :
    q.withdraw i d k a = q.remove n .withdrawn := by
  simp [NoticeQueue.withdraw, h, hn]

/-- R164: a HANDED notice is superseded where it stands. -/
theorem NoticeQueue.withdraw_handed {q : NoticeQueue} {i d : Nat} {k : Session} {n : Notice} (a : Bool)
    (h : q.list.find? (fun n => n.isAbsenceOf i d k) = some n) (hn : n.isHanded = true) :
    q.withdraw i d k a =
      { q with list := q.list.map fun m => if m.isAbsenceOf i d k then m.supersede (supersedeBy a) else m } := by
  simp [NoticeQueue.withdraw, h, hn]

/-! ### The arbiter (R75) -/

/-- R75: the rank that the arbiter reads is the lowest among the zones, 8 for none. -/
theorem zonesRank_eq_chimeRank (ranks : Vector Nat 8) (zones : BitVec 8) : zonesRank ranks zones = chimeRank ranks zones := by
  have all : allZones = List.finRange 8 := by decide
  simp only [zonesRank, chimeRank, all, List.foldl_map, List.foldl_filter, hasZone]
  rfl

/-- R75: the waiting job that the arbiter chooses, and where it stands among the jobs. -/
theorem bestWaiting_split (ranks : Vector Nat 8) (l : List Job) :
    match bestWaiting ranks (l.filter Job.isWaiting) with
    | none => l.all (fun m => m.play ≠ none) = true
    | some j => ∃ before after, l = before ++ j :: after ∧ j.play = none ∧
        (∀ m ∈ before, m.play = none → chimeRank ranks j.zones < chimeRank ranks m.zones) ∧
        (∀ m ∈ after, m.play = none → chimeRank ranks j.zones ≤ chimeRank ranks m.zones) := by
  induction l with
  | nil => rfl
  | cons a l ih =>
    by_cases ha : a.play = none
    · have hw : a.isWaiting = true := by simp [Job.isWaiting, ha]
      rw [List.filter_cons, if_pos hw]
      cases h : bestWaiting ranks (l.filter Job.isWaiting) with
      | none =>
        rw [h] at ih
        rw [bestWaiting, h]
        refine ⟨[], l, rfl, ha, nofun, fun m hm hp => absurd hp ?_⟩
        simpa using (List.all_eq_true.mp ih) m hm
      | some j =>
        rw [h] at ih
        obtain ⟨before, after, rfl, hj, hb, hc⟩ := ih
        rw [bestWaiting, h]
        simp only [zonesRank_eq_chimeRank]
        by_cases hlt : chimeRank ranks j.zones < chimeRank ranks a.zones
        · rw [if_pos hlt]
          refine ⟨a :: before, after, rfl, hj, ?_, hc⟩
          intro m hm hp
          rcases List.mem_cons.mp hm with rfl | hm
          · exact hlt
          · exact hb m hm hp
        · rw [if_neg hlt]
          refine ⟨[], _, rfl, ha, nofun, fun m hm hp => ?_⟩
          rcases List.mem_append.mp hm with hm | hm
          · have := hb m hm hp
            omega
          · rcases List.mem_cons.mp hm with rfl | hm
            · omega
            · have := hc m hm hp
              omega
    · have hw : ¬ a.isWaiting = true := by simpa [Job.isWaiting] using ha
      rw [List.filter_cons, if_neg hw]
      cases h : bestWaiting ranks (l.filter Job.isWaiting) with
      | none =>
        rw [h] at ih
        simp only [List.all_cons, Bool.and_eq_true]
        exact ⟨by simpa using ha, ih⟩
      | some j =>
        rw [h] at ih
        obtain ⟨before, after, rfl, hj, hb, hc⟩ := ih
        refine ⟨a :: before, after, rfl, hj, ?_, hc⟩
        intro m hm hp
        rcases List.mem_cons.mp hm with rfl | hm
        · exact absurd hp ha
        · exact hb m hm hp

theorem Job.lose_eq_without (m : Job) (zones : BitVec 8) : m.lose zones = m.without zones := by
  unfold Job.lose Job.without
  cases h : m.play <;> simp [Job.isWaiting, h]

theorem Job.spent_eq (m : Job) : m.spent = !(m.play = none || m.zones ≠ 0#8 || m.holds) := by
  cases h : m.play <;> cases hz : decide (m.zones = 0#8) <;> simp_all [Job.spent, Job.isWaiting]

theorem mapFirst_append {α : Type} (p : α → Bool) (f : α → α) {l r : List α} {a : α} (hl : ∀ b ∈ l, p b = false)
    (ha : p a = true) : mapFirst p f (l ++ a :: r) = l ++ f a :: r := by
  induction l with
  | nil => simp [mapFirst, ha]
  | cons b l ih =>
    simp only [List.cons_append, mapFirst, hl b List.mem_cons_self]
    simp [ih fun c hc => hl c (List.mem_cons_of_mem b hc)]

/-- R75: all that a grant can do to the jobs. -/
theorem RingUnit.grant_granted (r : RingUnit) (ranks : Vector Nat 8) :
    Granted ranks r.jobs (r.grant ranks).jobs ∧ r.grant ranks = { r with jobs := (r.grant ranks).jobs } := by
  have held : r.holder.isSome = r.jobs.any Job.holds := by
    rw [Bool.eq_iff_iff, RingUnit.holder, List.find?_isSome, List.any_eq_true]
  have split := bestWaiting_split ranks r.jobs
  unfold RingUnit.grant
  rw [held]
  cases hh : r.jobs.any Job.holds
  · simp only [Bool.false_eq_true, if_false, RingUnit.waiting]
    cases hb : bestWaiting ranks (r.jobs.filter Job.isWaiting) with
    | none =>
      rw [hb] at split
      exact ⟨⟨fun _ => rfl, fun _ h => by rw [split] at h; cases h⟩, rfl⟩
    | some j =>
      rw [hb] at split
      obtain ⟨before, after, hs, hj, h1, h2⟩ := split
      refine ⟨⟨fun h => ?_, fun _ _ => ⟨before, after, j, hs, hj, h1, h2, ?_⟩⟩, rfl⟩
      · rcases h with h | h
        · rw [hh] at h; cases h
        · have := List.all_eq_true.mp h j (hs ▸ by simp)
          simp [hj] at this
      · simp only [RingUnit.start, hs, List.map_append, List.map_cons]
        have own : j.lose j.zones = j := by simp [Job.lose, Job.isWaiting, hj]
        rw [own, mapFirst_append]
        · simp only [Job.lose_eq_without, Job.spent_eq, Bool.not_not, Job.begin, repeatsOf]
        · intro b hb'
          obtain ⟨m, hm, rfl⟩ := List.mem_map.mp hb'
          refine decide_eq_false fun e => ?_
          have mp : m.play = none := by
            have := congrArg Job.play e
            unfold Job.lose at this
            split at this <;> simp_all
          have : m.lose j.zones = m := by simp [Job.lose, Job.isWaiting, mp]
          rw [this] at e
          exact absurd (h1 m hm mp) (by rw [e]; omega)
        · simp
  · exact ⟨⟨fun _ => rfl, fun h => by cases hh ▸ h⟩, rfl⟩

/-! ### The log (R117, R118) -/

/-- R117: below 512 records the record joins the end. -/
theorem State.writeLog_room {s : State} (r : LogRecord) (h : s.arrivals.log.length < 512) :
    s.writeLog r = s.withArrivals { s.arrivals with
      log := s.arrivals.log ++ [r], nextSequence := wrapNext s.arrivals.nextSequence } := by
  simp [State.writeLog, Config.arrivalsLog, h]

/-- R118: a full log loses its oldest record, and LOSS is raised. -/
theorem State.writeLog_full {s : State} (r : LogRecord) (h : ¬ s.arrivals.log.length < 512) :
    s.writeLog r = (s.withArrivals { s.arrivals with
      log := s.arrivals.log.tail ++ [r], nextSequence := wrapNext s.arrivals.nextSequence,
      overwrites := bump s.arrivals.overwrites }).raise .loss := by
  simp [State.writeLog, Config.arrivalsLog, h]

/-! ### Starts (R183) -/

theorem State.start_cold {s : State} (h : s.power.signature = false) (c : StartCause) :
    s.start c = { State.reset with pending := s.pending } := by
  simp [State.start, h, State.coldStart]

theorem State.start_warm {s : State} (h : s.power.signature = true) (c : StartCause) : s.start c = s.warmStart c := by
  simp [State.start, h]

/-- R183: a start after both supplies were lost is cold: RETAIN keeps the signature only with the battery there. -/
@[simp] theorem State.enterRetain_signature (s : State) :
    s.enterRetain.power.signature = (s.power.signature && s.power.battery) := rfl

/-! ### The desk line (R82, R86) -/

@[simp] theorem LineChar.bits_length (c : LineChar) : c.bits.length = 11 := by
  simp [LineChar.bits, dataBits]

/-- R82: a character is read back from its eleven bits. -/
theorem LineChar.ofBits_bits (c : LineChar) : LineChar.ofBits c.bits = some c := by
  obtain ⟨mark, value⟩ := c
  have all : ∀ (m : Bool) (v : Byte), LineChar.ofBits (LineChar.bits ⟨m, v⟩) = some ⟨m, v⟩ := by decide +kernel
  exact all mark value

/-- R82: DTX sends the frame of an exchange just while DDIR is high. -/
theorem Desk.dtx_eq_some {d : Desk} {l : List LineChar} :
    d.dtx = some l ↔ ∃ e, d.line = .exchange e ∧ e.phase = .sending ∧ l = e.frame := by
  cases h : d.line with
  | exchange e =>
    by_cases p : e.phase = .sending
    · simp [Desk.dtx, h, p, eq_comm]
    · simp only [Desk.dtx, h, p, if_false]
      exact ⟨nofun, fun ⟨f, hf, q, _⟩ => absurd (by cases hf; exact q) p⟩
  | idle => simp [Desk.dtx, h]
  | quiet => simp [Desk.dtx, h]

/-- R86: an address character while a reply is taken in makes the exchange a miss, with quiet time. -/
theorem State.hearAddress_receiving {s : State} {e : Exchange} {a : Byte} (b : Byte) (h : e.phase = .receiving a) :
    s.hearAddress b e = s.missExchange .quiet e := by
  simp [State.hearAddress, h]

/-- R86: an address character while the reply is waited for begins it. -/
theorem State.hearAddress_waiting {s : State} {e : Exchange} (b : Byte) (h : e.phase = .waiting) :
    s.hearAddress b e = s.setLine (.exchange { e with phase := .receiving b }) := by
  simp [State.hearAddress, h]

/-! ### The judgement of stage 1 (R176) -/

theorem State.sweepsDone_iff (s : State) : s.sweepsDone = true ↔ s.sweep.queue = [] ∧ s.sweep.flight = none := by
  simp [State.sweepsDone]

/-- All that the judgement can do: a rollover at stage 1 goes on to stage 2 where no sweep is left. -/
theorem State.judgeStage1_eq (s : State) :
    s.judgeStage1 = s.withDays { s.days with
      rollover := s.days.rollover.map fun r => if r.stage = 1 ∧ s.sweepsDone = true then { r with stage := 2 } else r } := by
  have same (o : Option Rollover) (h : s.days.rollover = o) : s = s.withDays { s.days with rollover := o } := by
    rw [← h]
    rfl
  unfold State.judgeStage1 State.setRollover
  split
  next r hr =>
    rw [hr]
    by_cases h : r.stage = 1 ∧ s.sweepsDone = true
    · simp [h]
    · rw [if_neg (by simpa using h), Option.map_some, if_neg h]
      exact same _ hr
  next hr =>
    rw [hr]
    exact same _ hr

/-! ### The length of a reply (R185, R187) -/

theorem sentPayload_length (p : Bytes) : (sentPayload p).length ≤ 1040 := by
  simp only [sentPayload, Config.payloadLimit, List.length_take]
  omega

/-- An answer within the limit is sent whole. -/
theorem sentPayload_whole {p : Bytes} (h : p.length ≤ 1040) : sentPayload p = p := List.take_of_length_le h

/-- A request, whatever its block answers, puts no more than 1,040 bytes of payload in hand. -/
theorem takeFrame_payload {kind : Byte} {b : Bool} {serve : State → Served} {s : State} {r : Reply}
    (h : s.takesFrames = true) (hr : (takeFrame kind b serve s).link.inHand = some r) : r.payload.length ≤ 1040 := by
  rw [takeFrame_ordinary h] at hr
  cases hr
  exact sentPayload_length _

theorem encAll_length {α : Type} {enc : α → Bytes} {n : Nat} (h : ∀ x, (enc x).length = n) (l : List α) :
    (encAll enc l).length = n * l.length := by
  induction l with
  | nil => rfl
  | cons x l ih =>
    have e : encAll enc (x :: l) = enc x ++ encAll enc l := rfl
    rw [e, List.length_append, h, ih, List.length_cons, Nat.mul_succ]
    omega

/-- R116, R188: nine bytes an entry, so that R187's 1,040 bytes hold up to 115 entries whole (log 8). -/
theorem serveOffsiteRead_length (s : State) : (serveOffsiteRead s).2.length = 2 + 9 * s.arrivals.offsite.length := by
  have h : ∀ e, (encOffsite s e).length = 9 := fun e => by
    simp only [encOffsite, List.length_append]
    cases e.reason <;> rfl
  simp only [serveOffsiteRead, answer, okReply, encList, u8, List.length_cons, List.length_append, List.length_nil,
    encAll_length h]
  omega

theorem serveOffsiteRead_sent {s : State} (h : s.arrivals.offsite.length ≤ 115) :
    sentPayload (serveOffsiteRead s).2 = (serveOffsiteRead s).2 :=
  sentPayload_whole (by rw [serveOffsiteRead_length]; omega)

end Sys2Proof.Machine
end

