-- ==== Sys2Proof/Laws/PerInstr.lean ====
section
/-! SUPPORT. The family of statements made for every command: a well-formed request's payload fits a frame and reads
back as the request (R185, R188, R189). -/

namespace Sys2Proof.Laws.Payload

/-- A well-formed request's payload fits a frame, and the reader of its kind code gives the request back. -/
def Statement (i : Instr) : Prop :=
  i.wellFormed = true → ∀ k p, i.request = some (k, p) →
    p.length ≤ Config.payloadLimit ∧ ∃ read, readerOf k = some read ∧ read p = some i

/-- An event has no payload. -/
theorem ofEvent {i : Instr} (h : i.request = none) : Statement i := by
  intro _ k p hp
  rw [h] at hp
  cases hp

/-- A request whose payload is short and reads back. -/
theorem ofRequest {i : Instr} {k : Byte} {p : Bytes} {read : Bytes → Option Instr} (h : i.request = some (k, p))
    (hl : p.length ≤ Config.payloadLimit) (hr : readerOf k = some read) (hp : read p = some i) : Statement i := by
  intro _ k' p' hp'
  rw [h] at hp'
  cases hp'
  exact ⟨hl, read, hr, hp⟩

theorem status : Statement (.status) := ofRequest rfl (Nat.le_of_ble_eq_true rfl) rfl rfl

theorem eventsClear (set : Byte) : Statement (.eventsClear set) := ofRequest rfl (Nat.le_of_ble_eq_true rfl) rfl rfl

theorem eventsMask (set : Byte) : Statement (.eventsMask set) := ofRequest rfl (Nat.le_of_ble_eq_true rfl) rfl rfl

theorem configWrite (id index : Byte) (value : BitVec 16) : Statement (.configWrite id index value) :=
  ofRequest rfl (Nat.le_of_ble_eq_true rfl) rfl (by simp [readConfigWrite, bytes16])

theorem configRead (id index : Byte) :
    Statement (.configRead id index) := ofRequest rfl (Nat.le_of_ble_eq_true rfl) rfl rfl

theorem partReset : Statement (.partReset) := ofRequest rfl (Nat.le_of_ble_eq_true rfl) rfl rfl

theorem clockRead : Statement (.clockRead) := ofRequest rfl (Nat.le_of_ble_eq_true rfl) rfl rfl

theorem clockSet (date : DateField) (time : TimeField) :
    Statement (.clockSet date time) := ofRequest rfl (Nat.le_of_ble_eq_true rfl) rfl rfl

theorem clockTrim (trim : Byte) : Statement (.clockTrim trim) := ofRequest rfl (Nat.le_of_ble_eq_true rfl) rfl rfl

theorem rollWrite (start : BitVec 16) (records : List RollItem) : Statement (.rollWrite start records) := by
  intro hw k p hp
  cases hp
  refine ⟨?_, _, rfl, ?_⟩
  · have h := flatMap_length_const rollItemBytes 9 rollItemBytes_length records
    simp only [Instr.wellFormed, fits, decide_eq_true_eq] at hw
    simp [h]
    omega
  · simp [readRollWrite, bytes16]

theorem rollRemove (index : BitVec 16) : Statement (.rollRemove index) :=
  ofRequest rfl (Nat.le_of_ble_eq_true rfl) rfl (by simp [readWord, bytes16])

theorem rollRead (start : BitVec 16) (count : Byte) : Statement (.rollRead start count) :=
  ofRequest rfl (Nat.le_of_ble_eq_true rfl) rfl (by simp [readWordByte, bytes16])

theorem termClear : Statement (.termClear) := ofRequest rfl (Nat.le_of_ble_eq_true rfl) rfl rfl

theorem markSet (index : BitVec 16) (session source value minutes reason explained : Byte) :
    Statement (.markSet index session source value minutes reason explained) :=
  ofRequest rfl (Nat.le_of_ble_eq_true rfl) rfl (by simp [readMarkSet, bytes16])

theorem planLoad (plan : Byte) (entries : List PlanItem) : Statement (.planLoad plan entries) := by
  intro hw k p hp
  cases hp
  refine ⟨?_, _, rfl, ?_⟩
  · have h := flatMap_length_const planItemBytes 7 planItemBytes_length entries
    simp only [Instr.wellFormed, fits, decide_eq_true_eq] at hw
    simp [h]
    omega
  · simp [readPlanLoad]

theorem planRead (plan : Byte) : Statement (.planRead plan) := ofRequest rfl (Nat.le_of_ble_eq_true rfl) rfl rfl

theorem trackDelay (track first minutes : Byte) :
    Statement (.trackDelay track first minutes) := ofRequest rfl (Nat.le_of_ble_eq_true rfl) rfl rfl

theorem trackInsert (track : Byte) (entries : List InsertItem) : Statement (.trackInsert track entries) := by
  intro hw k p hp
  cases hp
  refine ⟨?_, _, rfl, ?_⟩
  · have h := flatMap_length_const insertItemBytes 5 insertItemBytes_length entries
    simp only [Instr.wellFormed, fits, decide_eq_true_eq] at hw
    simp [h]
    omega
  · simp [readTrackInsert]

theorem trackSilence (track value : Byte) :
    Statement (.trackSilence track value) := ofRequest rfl (Nat.le_of_ble_eq_true rfl) rfl rfl

theorem trackRead (track : Byte) : Statement (.trackRead track) := ofRequest rfl (Nat.le_of_ble_eq_true rfl) rfl rfl

theorem patternLoad (pattern : Byte) (steps : List StepItem) : Statement (.patternLoad pattern steps) := by
  intro hw k p hp
  cases hp
  refine ⟨?_, _, rfl, ?_⟩
  · have h := flatMap_length_const stepItemBytes 4 stepItemBytes_length steps
    simp only [Instr.wellFormed, fits, decide_eq_true_eq] at hw
    simp [h]
    omega
  · simp [readPatternLoad]

theorem patternRead (pattern : Byte) :
    Statement (.patternRead pattern) := ofRequest rfl (Nat.le_of_ble_eq_true rfl) rfl rfl

theorem ringNow (zones pattern : Byte) :
    Statement (.ringNow zones pattern) := ofRequest rfl (Nat.le_of_ble_eq_true rfl) rfl rfl

theorem ringStop (zones : Byte) : Statement (.ringStop zones) := ofRequest rfl (Nat.le_of_ble_eq_true rfl) rfl rfl

theorem ringRead : Statement (.ringRead) := ofRequest rfl (Nat.le_of_ble_eq_true rfl) rfl rfl

theorem terminalRead : Statement (.terminalRead) := ofRequest rfl (Nat.le_of_ble_eq_true rfl) rfl rfl

theorem signIn (index : BitVec 16) : Statement (.signIn index) :=
  ofRequest rfl (Nat.le_of_ble_eq_true rfl) rfl (by simp [readWord, bytes16])

theorem signOut (index : BitVec 16) (reason : Byte) : Statement (.signOut index reason) :=
  ofRequest rfl (Nat.le_of_ble_eq_true rfl) rfl (by simp [readWordByte, bytes16])

theorem offsiteRead : Statement (.offsiteRead) := ofRequest rfl (Nat.le_of_ble_eq_true rfl) rfl rfl

theorem arrivalsRead (start : BitVec 16) (count : Byte) : Statement (.arrivalsRead start count) :=
  ofRequest rfl (Nat.le_of_ble_eq_true rfl) rfl (by simp [readWordByte, bytes16])

theorem sweepRead : Statement (.sweepRead) := ofRequest rfl (Nat.le_of_ble_eq_true rfl) rfl rfl

theorem reportAdd (index : BitVec 16) (date : DateField) (scope reason origin : Byte) :
    Statement (.reportAdd index date scope reason origin) :=
  ofRequest rfl (Nat.le_of_ble_eq_true rfl) rfl (by simp [readReportAdd, bytes16, dateBytes])

theorem reportCancel (index : BitVec 16) (date : DateField) : Statement (.reportCancel index date) :=
  ofRequest rfl (Nat.le_of_ble_eq_true rfl) rfl (by simp [readReportCancel, bytes16, dateBytes])

theorem bookRead (position count : Byte) :
    Statement (.bookRead position count) := ofRequest rfl (Nat.le_of_ble_eq_true rfl) rfl rfl

theorem noticeTake : Statement (.noticeTake) := ofRequest rfl (Nat.le_of_ble_eq_true rfl) rfl rfl

theorem noticeOutcome (slot : Byte) (creation : BitVec 16) (outcome : Byte) :
    Statement (.noticeOutcome slot creation outcome) :=
  ofRequest rfl (Nat.le_of_ble_eq_true rfl) rfl (by simp [readNoticeOutcome, bytes16])

theorem noticeHold (value : Byte) : Statement (.noticeHold value) := ofRequest rfl (Nat.le_of_ble_eq_true rfl) rfl rfl

theorem noticeOrder (order : Byte) : Statement (.noticeOrder order) := ofRequest rfl (Nat.le_of_ble_eq_true rfl) rfl rfl

theorem noticeCounts : Statement (.noticeCounts) := ofRequest rfl (Nat.le_of_ble_eq_true rfl) rfl rfl

theorem calendarLoad (body : CalendarBody) : Statement (.calendarLoad body) := by
  intro hw k p hp
  cases hp
  refine ⟨?_, _, rfl, ?_⟩
  · cases body with
    | weekday l =>
      simp only [Instr.wellFormed, CalendarBody.wellFormed, fits, decide_eq_true_eq] at hw
      simp [CalendarBody.bytes]
      omega
    | exceptions l =>
      have h := flatMap_length_const exceptionItemBytes 11 exceptionItemBytes_length l
      simp only [Instr.wellFormed, CalendarBody.wellFormed, fits, decide_eq_true_eq] at hw
      simp [CalendarBody.bytes, h]
      omega
    | remove l =>
      have h := flatMap_length_const dateBytes 3 dateBytes_length l
      simp only [Instr.wellFormed, CalendarBody.wellFormed, fits, decide_eq_true_eq] at hw
      simp [CalendarBody.bytes, h]
      omega
    | other form rest =>
      simp only [Instr.wellFormed, CalendarBody.wellFormed, fits, Bool.and_eq_true, decide_eq_true_eq] at hw
      simp [CalendarBody.bytes]
      omega
  · cases body with
    | weekday l => simp [CalendarBody.bytes, readCalendarLoad]
    | exceptions l => simp [CalendarBody.bytes, readCalendarLoad]
    | remove l => simp [CalendarBody.bytes, readCalendarLoad]
    | other form rest =>
      simp only [Instr.wellFormed, CalendarBody.wellFormed, Bool.and_eq_true, decide_eq_true_eq] at hw
      have h0 : form ≠ 0#8 := by rintro rfl; exact absurd hw.1 (by decide)
      have h1 : form ≠ 1#8 := by rintro rfl; exact absurd hw.1 (by decide)
      have h2 : form ≠ 2#8 := by rintro rfl; exact absurd hw.1 (by decide)
      simp [CalendarBody.bytes, readCalendarLoad, h0, h1, h2]

theorem calendarRead (part : CalendarPart) : Statement (.calendarRead part) := by
  intro hw k p hp
  cases hp
  cases part with
  | weekday => exact ⟨Nat.le_of_ble_eq_true rfl, _, rfl, rfl⟩
  | exceptions position count => exact ⟨Nat.le_of_ble_eq_true rfl, _, rfl, by simp [CalendarPart.bytes, readCalendarRead]⟩
  | other part rest =>
    simp only [Instr.wellFormed, CalendarPart.wellFormed, decide_eq_true_eq] at hw
    have h0 : part ≠ 0#8 := by rintro rfl; exact absurd hw (by decide)
    have h1 : part ≠ 1#8 := by rintro rfl; exact absurd hw (by decide)
    cases rest with
    | none => exact ⟨Nat.le_of_ble_eq_true rfl, _, rfl, by simp [CalendarPart.bytes, readCalendarRead, h0, h1]⟩
    | some r => exact ⟨Nat.le_of_ble_eq_true rfl, _, rfl, by simp [CalendarPart.bytes, readCalendarRead, h0, h1]⟩

theorem summaryRead (selector : Byte) :
    Statement (.summaryRead selector) := ofRequest rfl (Nat.le_of_ble_eq_true rfl) rfl rfl

theorem linkError (kind : Byte) : Statement (.linkError kind) := ofEvent rfl

theorem unknownKind (kind : Byte) : Statement (.unknownKind kind) := ofEvent rfl

theorem lengthOverLimit : Statement (.lengthOverLimit) := ofEvent rfl

theorem brokenFrame : Statement (.brokenFrame) := ofEvent rfl

theorem overlappedFrame : Statement (.overlappedFrame) := ofEvent rfl

theorem replyEnd : Statement (.replyEnd) := ofEvent rfl

theorem subTick : Statement (.subTick) := ofEvent rfl

theorem secondCountUp : Statement (.secondCountUp) := ofEvent rfl

theorem entryFire : Statement (.entryFire) := ofEvent rfl

theorem onPeriodEnd (job : BitVec 16) : Statement (.onPeriodEnd job) := ofEvent rfl

theorem offPeriodEnd (job : BitVec 16) : Statement (.offPeriodEnd job) := ofEvent rfl

theorem chimeWaitDegrade : Statement (.chimeWaitDegrade) := ofEvent rfl

theorem offlinePollDue (terminal : Byte) : Statement (.offlinePollDue terminal) := ofEvent rfl

theorem pollStart : Statement (.pollStart) := ofEvent rfl

theorem pollSent : Statement (.pollSent) := ofEvent rfl

theorem replyReceived (characters : Bytes) : Statement (.replyReceived characters) := ofEvent rfl

theorem replyFault : Statement (.replyFault) := ofEvent rfl

theorem characterGapTimeout : Statement (.characterGapTimeout) := ofEvent rfl

theorem replyTimeout : Statement (.replyTimeout) := ofEvent rfl

theorem quietTimeEnd : Statement (.quietTimeEnd) := ofEvent rfl

theorem tapJudgement : Statement (.tapJudgement) := ofEvent rfl

theorem sweepDispatch : Statement (.sweepDispatch) := ofEvent rfl

theorem sweepVisit : Statement (.sweepVisit) := ofEvent rfl

theorem sweepComplete : Statement (.sweepComplete) := ofEvent rfl

theorem noticeRelease : Statement (.noticeRelease) := ofEvent rfl

theorem handedTimeout : Statement (.handedTimeout) := ofEvent rfl

theorem rolloverStage2 : Statement (.rolloverStage2) := ofEvent rfl

theorem rolloverStage3 : Statement (.rolloverStage3) := ofEvent rfl

theorem rolloverWalkSlot : Statement (.rolloverWalkSlot) := ofEvent rfl

theorem rolloverStage5 : Statement (.rolloverStage5) := ofEvent rfl

theorem rolloverComplete : Statement (.rolloverComplete) := ofEvent rfl

theorem retainEntry : Statement (.retainEntry) := ofEvent rfl

theorem resetNLow : Statement (.resetNLow) := ofEvent rfl

theorem powerReturn : Statement (.powerReturn) := ofEvent rfl

theorem pinReset : Statement (.pinReset) := ofEvent rfl

theorem requestedStart : Statement (.requestedStart) := ofEvent rfl

theorem syncByte : Statement (.syncByte) := ofEvent rfl

theorem replyAddressCharacter (value : Byte) : Statement (.replyAddressCharacter value) := ofEvent rfl

theorem batteryLoss : Statement (.batteryLoss) := ofEvent rfl

end Sys2Proof.Laws.Payload
end

