-- ==== Sys2Proof/Tests/Slice0.lean ====
section
/-! SUPPORT. Tests of the model against the manual's worked examples, the smoke test of `wellFormed`, and for each
statement a concrete state and operands that meet its hypotheses, clause by clause. -/

namespace Sys2Proof.Tests

set_option Elab.async false

open Sys2Proof Sys2Proof.Machine

/-! ### Small states -/

/-- A test of the state that a command leaves. -/
def after (o : Out) (f : State → Bool) : Bool :=
  match o with
  | .next t => f t
  | _ => false

/-- The payload of the reply in hand. -/
def said (s : State) : Bytes := (s.link.inHand.map Reply.payload).getD []

/-- A day of 2025-05-13, day number 9,264 (ch. 8's example), at a time of day. -/
def dayAt (seconds : Nat) : State :=
  (State.reset.withClock { date := 9264, seconds := seconds, prescaler := 0, held := false, isSet := true }).withDays
    { State.reset.days with today := 9264 }

/-- A rollover in flight at a stage. -/
def rollover (stage position : Nat) : Rollover :=
  { old := 9264, new := 9265, stage := stage, position := position, termStart := some true,
    selections := some (Vector.replicate 6 (some 1)) }

/-- A day with a rollover in flight. -/
def turning (stage position : Nat) : State :=
  (dayAt 5).withDays { (dayAt 5).days with rollover := some (rollover stage position) }

/-- An entry of a running plan that is not delayed. -/
def running (time : Nat) (kind : EntryKind) (zones : BitVec 8) (pattern : Fin 16) (state : FireState) : RunningEntry :=
  { entry := { time := time, kind := kind, zones := zones, pattern := pattern }, delay := 0, state := state,
    inserted := false }

/-- A pupil with two marks of given values, contact yes. -/
def pupil (track : Track) (m1 m2 : MarkValue) (count minutes : Nat) : Pupil :=
  { card := 0x00A1C3F0, number := 4102388, track := track, contact := true, mark1 := clearedMark m1,
    mark2 := clearedMark m2, lateCount := count, lateMinutes := minutes }

/-- The state with one pupil, in slot 517. -/
def enrol (s : State) (p : Pupil) : State := (s.withRoll [(517, p)]).withCards [(p.card, 517)]

/-- Track 2 of ch. 1 and ch. 6: session 1 from 31,200 to 33,000, the day's close at 56,400, fired up to a time. -/
def track2 (now : Nat) : RunningPlan :=
  let fired (t : Nat) : FireState := if t ≤ now then .rung else .pending
  { plan := some 7, day := .active, session2 := none, silence := false
    session1 := some (if 33000 ≤ now then .closed else if 31200 ≤ now then .opened else .notOpen)
    entries := [running 31200 (.sessionOpen .s1) 0#8 0 (fired 31200),
      running 33000 (.registerClose .s1) 0#8 0 (fired 33000), running 56400 .dayClose 0#8 0 (fired 56400)] }

/-- A school day at a time, with track 2's plan and one pupil of track 2 whose session 1 mark has a value. -/
def school (now : Nat) (m1 : MarkValue) : State :=
  enrol ((dayAt now).withPlan 2 (track2 now)) (pupil 2 m1 .notRequired 9 37)

/-- The school with a tap of the pupil's card at the front of the tap queue. -/
def tapped (now stamp : Nat) (m1 : MarkValue) (kind : TapKind) : State :=
  (school now m1).withDesk { (school now m1).desk with
    taps := [{ stamp := { date := 9264, seconds := stamp }, terminal := 1, card := 0x00A1C3F0, kind := kind }] }

/-- A time field of zeros. -/
def midnight : TimeField := { hour := 0#8, minute := 0#8, second := 0#8 }

/-- A date field of zeros, which names no date. -/
def noDate : DateField := { year := 0#8, month := 0#8, day := 0#8 }

/-- Slot 517 reached by the sweep of track 2's session 1. -/
def sweeping (position : Nat) : SweepFlight :=
  { request := { track := 2, session := .s1, byStart := false }, dispatched := { date := 9264, seconds := 33000 },
    position := position, counts := zeroSweepCounts }

/-! ### `wellFormed` refuses what no frame and no line can bring -/

theorem test_wellFormed_rollWrite_too_long :
    (Instr.rollWrite 0#16 (List.replicate 116 { card := 1#32, number := 1#24, track := 0#8, contact := 0#8 })).wellFormed
      = false := by decide +kernel

theorem test_wellFormed_planLoad_too_long :
    (Instr.planLoad 0#8 (List.replicate 149
      { time := midnight, kind := 0#8, session := 0#8, zones := 0#8, pattern := 0#8 })).wellFormed = false := by decide +kernel

theorem test_wellFormed_trackInsert_too_long :
    (Instr.trackInsert 0#8 (List.replicate 208 { time := midnight, zones := 0#8, pattern := 0#8 })).wellFormed = false := by decide +kernel

theorem test_wellFormed_patternLoad_too_long :
    (Instr.patternLoad 0#8 (List.replicate 260 { tone := 0#8, onUnits := 1#8, offUnits := 0#8, repeats := 1#8
      })).wellFormed = false := by decide +kernel

theorem test_wellFormed_calendarLoad_bad_forms :
    (Instr.calendarLoad (.other 2#8 [])).wellFormed = false ∧
    (Instr.calendarLoad (.weekday (List.replicate 1040 0#8))).wellFormed = false ∧
    (Instr.calendarLoad (.remove (List.replicate 347 noDate))).wellFormed = false ∧
    (Instr.calendarLoad (.exceptions (List.replicate 95
      { date := noDate, closed := 0#8, termStart := 0#8, selections := Vector.replicate 6 0#8 }))).wellFormed = false := by decide +kernel

theorem test_wellFormed_calendarRead_other_names_a_part :
    (Instr.calendarRead (.other 1#8 none)).wellFormed = false := by decide

theorem test_wellFormed_unknownKind_of_a_request : (Instr.unknownKind 0x24#8).wellFormed = false := by decide

theorem test_wellFormed_offlinePollDue_address_0_and_5 :
    (Instr.offlinePollDue 0#8).wellFormed = false ∧ (Instr.offlinePollDue 5#8).wellFormed = false := by decide

theorem test_wellFormed_replyReceived_of_3_characters :
    (Instr.replyReceived [0#8, 0#8, 0#8]).wellFormed = false := by decide

/-! ### Frames (ch. 11) -/

/-- The published check value of the CRC that R185 names: the nine characters "123456789" give 0x29B1. -/
theorem test_crc_check_value :
    crc16 [0x31#8, 0x32#8, 0x33#8, 0x34#8, 0x35#8, 0x36#8, 0x37#8, 0x38#8, 0x39#8] = 0x29B1#16 := by decide +kernel

/-- A NOTICE_OUTCOME for handle 5/812, DELIVERED, laid out by R185 and R188, is received as that request. -/
theorem test_receive_notice_outcome :
    receive (0xC3#8 :: ([0x00#8, 0x04#8, 0x69#8, 0x05#8, 0x03#8, 0x2C#8, 0x00#8] ++
      bytes16 (crc16 [0x00#8, 0x04#8, 0x69#8, 0x05#8, 0x03#8, 0x2C#8, 0x00#8]))) =
      some (.noticeOutcome 5#8 812#16 0#8) := by decide +kernel

/-- Ch. 11's example, step 5: a damaged payload byte makes the frame a LINK_ERROR of its kind. -/
theorem test_receive_damaged_frame :
    receive (0xC3#8 :: ([0x00#8, 0x04#8, 0x69#8, 0x05#8, 0x03#8, 0x2D#8, 0x00#8] ++
      bytes16 (crc16 [0x00#8, 0x04#8, 0x69#8, 0x05#8, 0x03#8, 0x2C#8, 0x00#8]))) = some (.linkError 0x69#8) := by
  decide +kernel

/-! ### The clock (ch. 2's examples) -/

/-- Ch. 2: day numbers and weekdays of four dates. -/
theorem test_day_numbers :
    dayNumber 24 3 1 = 8826 ∧ weekdayOf 8826 = 4 ∧ dayNumber 24 2 29 = 8825 ∧ weekdayOf 8825 = 3 ∧
    dayNumber 99 12 31 = 36524 ∧ weekdayOf 36524 = 3 ∧ encDate 8825 = [0x24#8, 0x02#8, 0x29#8] := by decide +kernel

/-- The clock of a row of ch. 2's table of trims. -/
def trimmed (prescaler : Nat) (held : Bool) (trim : Byte) (f : Clock → Bytes → Bool) : Bool :=
  after (exec (.clockTrim trim) ((dayAt 36000).withClock
    { date := 9264, seconds := 36000, prescaler := prescaler, held := held, isSet := true })) fun t => f t.clock (said t)

/-- Ch. 2, trims: forward, carrying. -/
theorem test_trim_forward_carrying : trimmed 1000 false 40#8
    (fun c r => c.prescaler = 16 && !c.held && c.seconds = 36001 && r = [0#8, 40#8, 0#8, 16#8, 0#8]) = true := by
  decide +kernel

/-- Ch. 2, trims: backward, owing; owed already; forward, paying the debt. -/
theorem test_trims_backward_and_paying :
    trimmed 30 false (BitVec.ofInt 8 (-60))
      (fun c r => c.prescaler = 994 && c.held && c.seconds = 36000 && r.take 2 = [0#8, BitVec.ofInt 8 (-60)]) = true ∧
    trimmed 20 true (BitVec.ofInt 8 (-50))
      (fun c r => c.prescaler = 0 && c.held && r.take 2 = [1#8, BitVec.ofInt 8 (-20)]) = true ∧
    trimmed 1010 true 20#8 (fun c _ => c.prescaler = 6 && !c.held && c.seconds = 36000) = true := by decide +kernel

/-- Ch. 2: 2025-04-31 is clamped to 2025-04-30 and starts a rollover; a minute of 60 fails first. -/
theorem test_clock_set_clamps_and_checks :
    after (exec (.clockSet { year := 0x25#8, month := 0x04#8, day := 0x31#8 }
      { hour := 0x09#8, minute := 0x15#8, second := 0x20#8 }) (dayAt 33320)) (fun t =>
        t.clock.date = dayNumber 25 4 30 && t.rolling && (said t).take 4 = [1#8, 0x25#8, 0x04#8, 0x30#8]) = true ∧
    after (exec (.clockSet { year := 0x25#8, month := 0x04#8, day := 0x31#8 }
      { hour := 0x09#8, minute := 0x60#8, second := 0x20#8 }) (dayAt 33320)) (fun t => said t = [3#8, 4#8]) = true := by
  decide +kernel

/-- R27: the count-up after 23:59:59 of 2099-12-31 brings 2000-01-01. -/
theorem test_second_wraps_the_last_day :
    after (exec .subTick (State.reset.withClock
      { date := 36524, seconds := 86399, prescaler := 1023, held := false, isSet := true }))
      (fun t => t.clock.date = 0 && t.clock.seconds = 0 && t.clock.prescaler = 0 && t.rolling) = true := by decide +kernel

/-! ### The roll and arrivals (ch. 1 and ch. 6's examples) -/

/-- Ch. 1: the sweep finds the mark NONE, writes UNEXPLAINED and offers an ABSENCE notice held to 09:40:01. -/
theorem test_sweep_visit_unexplained :
    after (exec .sweepVisit ((school 33001 .none).withSweep { queue := [], last := none, flight := some (sweeping 517) }))
      (fun t =>
      (t.pupilAt 517).map (fun p => (p.mark1.value, p.mark1.source, p.lateCount)) = some (.unexplained, .sweep, 9) &&
      t.notices.list.map (fun n => (n.kind, n.state)) = [(.absence .s1, .held 34801)]) = true := by decide +kernel

/-- Ch. 1: the tap at 09:22:14 is LATE_CLOSED with 41 minutes; the tally goes from 9 and 37 to 10 and 78, and a
PATTERN notice and a LATE notice follow. -/
theorem test_tap_late_closed_charges :
    after (exec .tapJudgement (tapped 33734 33734 .unexplained .tapIn)) (fun t =>
      (t.pupilAt 517).map (fun p => (p.mark1.value, p.mark1.minutes, p.mark1.charge, p.lateCount, p.lateMinutes)) =
        some (.lateClosed, 41, 41, 10, 78) &&
      t.notices.list.map Notice.kind = [.pattern 10, .late .s1 41 true]) = true := by decide +kernel

/-- Ch. 1: the office explains the late mark, and its charge is reversed. -/
theorem test_mark_set_office_explained :
    after (exec (.markSet 517#16 1#8 3#8 3#8 41#8 0#8 1#8) (enrol ((dayAt 36300).withPlan 2 (track2 36300))
      { pupil 2 .lateClosed .notRequired 10 78 with mark1 :=
          { clearedMark .lateClosed with source := .tap, minutes := 41, charge := 41, counted := true } })) (fun t =>
      (t.pupilAt 517).map (fun p => (p.mark1.value, p.mark1.source, p.mark1.explained, p.mark1.charge, p.lateCount,
        p.lateMinutes)) = some (.lateClosed, .office, true, 0, 9, 37)) = true := by decide +kernel

/-- Ch. 1: a teacher's mark for a session that is CLOSED is answered STATE. -/
theorem test_mark_set_teacher_state :
    after (exec (.markSet 517#16 1#8 2#8 1#8 0#8 0#8 0#8) (school 37800 .none)) (fun t => said t = [6#8]) = true := by
  decide +kernel

/-- The verdict and minutes of a tap judged on track 2. -/
def judged (now stamp : Nat) : Option (VerdictCode × Nat × Option MarkValue) :=
  match exec .tapJudgement (tapped now stamp .none .tapIn) with
  | .next t => (t.arrivals.log.head?).map fun r => (r.verdict, r.minutes, (t.pupilAt 517).map fun p => p.mark1.value)
  | _ => none

/-- Ch. 6, edges on track 2: on time, late, late at the register's close and after it. -/
theorem test_tap_edges_of_lateness :
    [31320, 31321, 31380, 31381, 32999, 33000].map (judged 33001) =
      [some (.onTime, 0, some .present), some (.late, 1, some .late), some (.late, 1, some .late),
        some (.late, 2, some .late), some (.late, 28, some .late), some (.lateClosed, 28, some .lateClosed)] := by
  decide +kernel

/-- Ch. 6, edges on track 2: saturated minutes, before the first opening, and after the day's close. -/
theorem test_tap_edges_of_the_day :
    judged 47000 47000 = some (.lateClosed, 255, some .lateClosed) ∧
    judged 30600 30600 = some (.onTime, 0, some .present) ∧
    judged 56405 56405 = some (.outsideDay, 0, some .none) := by decide +kernel

/-- Ch. 6: a sign-out at the desk puts the pupil on the off-site list and logs terminal 0. -/
theorem test_sign_out :
    after (exec (.signOut 517#16 1#8) (school 39900 .present)) (fun t =>
      t.arrivals.offsite = [{ pupil := 517, seconds := 39900, reason := .appointment }] &&
      t.arrivals.log.map (fun r => (r.terminal, r.isOut, r.verdict, r.session)) = [(0, true, .signedOut, none)]) = true := by
  decide +kernel

/-! ### Bells and rings (ch. 3 and ch. 4's examples) -/

/-- A running plan, ACTIVE, not silenced. -/
def runs (session1 session2 : Option SessionState) (entries : List RunningEntry) : RunningPlan :=
  { plan := some 7, entries := entries, day := .active, session1 := session1, session2 := session2, silence := false }

/-- Track 3 of ch. 3's catching up. -/
def caughtUp : State :=
  ((dayAt 39031).withPlan 3 (runs none none [running 36300 .plain 1#8 0 .pending, running 37800 .plain 1#8 0 .pending,
      running 39000 .plain 1#8 0 .pending])).withCountUps
    { bells := [{ date := 9264, seconds := 39031 }], waits := [], releases := [], timeouts := [] }

/-- Ch. 3: after a forward step two entries pass beyond the window, RING is raised, and the third rings. -/
theorem test_entry_fire_catches_up :
    after (exec .entryFire caughtUp) (fun t =>
      (t.plan 3).entries.map RunningEntry.state = [.passed, .passed, .rung] && t.ring.jobs.length = 1 &&
      t.link.raised &&& 0x10#8 = 0x10#8) = true := by decide +kernel

/-- Ch. 3: a backward step of an hour re-arms the PLAIN entries that lie after the new time. -/
theorem test_backward_step_rearms :
    after (exec (.clockSet { year := 0x25#8, month := 0x05#8, day := 0x13#8 }
      { hour := 0x10#8, minute := 0x42#8, second := 0x10#8 }) ((dayAt 42130).withPlan 1 (runs (some .opened) (some .opened)
        [running 38400 .plain 1#8 0 .rung, running 39600 .plain 1#8 0 .rung,
          running 42060 (.sessionOpen .s2) 1#8 0 .rung, running 45000 .plain 1#8 0 .pending]))) (fun t =>
      (t.plan 1).entries.map RunningEntry.state = [.rung, .pending, .rung, .pending] && !t.rolling) = true := by
  decide +kernel

/-- Track 3 of ch. 3's delay and insert, at 09:45:00. -/
def delayed : State :=
  (dayAt 35100).withPlan 3 (runs (some .closed) (some .notOpen)
    [running 30900 .plain 3#8 2 .rung, running 32400 (.sessionOpen .s1) 7#8 1 .rung,
      running 34200 (.registerClose .s1) 0#8 0 .rung, running 37800 .plain 4#8 2 .pending,
      running 39000 .plain 4#8 2 .pending])

/-- Ch. 3's insert: 10:05:00, zone 2, pattern 4. -/
def assembly : InsertItem :=
  { time := { hour := 0x10#8, minute := 0x05#8, second := 0x00#8 }, zones := 4#8, pattern := 4#8 }

/-- Ch. 3: 10:05:00 takes index 3; and a delay that would break the order is BAD_FIELD with field 2. -/
theorem test_track_insert_and_bad_delay :
    after (exec (.trackInsert 3#8 [assembly]) delayed) (fun t => said t = [0#8, 1#8, 3#8] && (t.plan 3).insertedCount = 1) = true ∧
    after (exec (.trackDelay 3#8 4#8 (BitVec.ofInt 8 (-60))) delayed) (fun t => said t = [3#8, 2#8]) = true ∧
    after (exec (.trackDelay 3#8 2#8 20#8) delayed) (fun t => said t = [6#8]) = true := by decide +kernel

/-- A tonal pattern of ch. 4: tone 2, on 40, off 0, once. -/
def tonePattern : List PatternStep := [{ tone := 2, onUnits := 40, offUnits := 0, repeats := 1 }]

/-- A ring job of pattern 5 made by the office. -/
def job (number : Nat) (zones : BitVec 8) (play : Option Play) : Job :=
  { number := number, zones := zones, steps := tonePattern, origin := .office,
    created := { date := 9264, seconds := 37800 }, waited := 0, degraded := false, play := play }

/-- A first on period, with or without the chime line. -/
def playing (holds : Bool) : Option Play := some { step := 0, repeatsLeft := 1, sounding := true, holdsChime := holds }

/-- Ch. 4: job 40 holds the line on zone 4, and jobs 41, 42 and 44 wait with ranks 6, 2 and 0. -/
def contended : State :=
  (dayAt 37804).withRing { State.reset.ring with
    patterns := State.reset.ring.patterns.set 5 tonePattern
    jobs := [job 40 0x10#8 (playing true), job 41 0x40#8 none, job 42 0x04#8 none, job 44 0x01#8 none], nextJob := 45 }

/-- Ch. 4, +4.5: job 40's pattern ends, and the line goes to job 44 although it was made last. -/
theorem test_ring_end_grants_by_rank :
    after (exec (.onPeriodEnd 40#16) contended) (fun t =>
      t.ring.holder.map Job.number = some 44 && t.ring.waiting.map Job.number = [41, 42] && t.ring.relay 0 &&
      t.ring.chime = some 2) = true := by decide +kernel

/-- Ch. 4: RING_STOP for zones 2 and 6 removes the waiting jobs of those zones. -/
theorem test_ring_stop_removes_waiting :
    after (exec (.ringStop 0x44#8) contended) (fun t =>
      said t = [0#8, 0#8, 2#8] && t.ring.jobs.map Job.number = [40, 44]) = true := by decide +kernel

/-- Ch. 4, +1.5: RING_NOW on a held line waits, and is told its place. -/
theorem test_ring_now_waits :
    after (exec (.ringNow 1#8 5#8) contended) (fun t => said t = [0#8, 2#8, 1#8, 0#8, 45#8, 1#8, 4#8]) = true := by
  decide +kernel

/-! ### The desk line (ch. 5's example) -/

/-- Terminals 1, 2 and 3 enabled; 1 and 2 ONLINE, 3 OFFLINE. -/
def gates (line : DeskLine) (queued : Bool) : State :=
  let online : Terminal := { coldTerminal with state := .online, tapQueued := queued }
  let tap : Tap := { stamp := { date := 9264, seconds := 30000 }, terminal := 1, card := 0x00A1C3F0, kind := .tapIn }
  ((dayAt 30000).withParams { defaultParams with enabled := 7#4 }).withDesk
    { terminals := #v[{ coldTerminal with state := .online }, online, { coldTerminal with state := .offline }, coldTerminal]
      taps := if queued then [tap] else [], line := line, round := some 0 }

/-- Ch. 5, exchange 5: the round goes to terminal 2 with WAIT; the poll's data characters sum to 0. -/
theorem test_poll_start_next_in_round :
    after (exec .pollStart (gates .idle true)) (fun t =>
      match t.desk.line with
      | .exchange e => e.terminal = 1 && !e.ready && e.frame.map LineChar.value = [2#8, 1#8, 0#8, 0#8, 0xFF#8]
      | _ => false) = true := by decide +kernel

/-- An exchange with terminal 2 that is taking in a reply from address 18. -/
def replying (ready : Bool) : DeskLine :=
  .exchange { terminal := 1, ready := ready, carries := none, frame := [], phase := .receiving 18#8 }

/-- Ch. 5, exchange 5: a tap sent against WAIT is discarded and raises LOSS; exchange 4: against READY it is taken. -/
theorem test_reply_tap_taken_and_discarded :
    after (exec (.replyReceived [1#8, 0x00#8, 0xC0#8, 0xFF#8, 0xEE#8, 1#8, 0#8, 0x51#8]) (gates (replying false) true))
      (fun t => (t.terminal 1).discarded = 1 && t.desk.taps.length = 1 && t.link.raised &&& 0x20#8 = 0x20#8) = true ∧
    after (exec (.replyReceived [1#8, 0x00#8, 0xC0#8, 0xFF#8, 0xEE#8, 1#8, 0#8, 0x51#8]) (gates (replying true) false))
      (fun t => (t.terminal 1).taken = 1 && t.desk.taps.map Tap.card = [0x00C0FFEE]) = true := by decide +kernel

/-- R82: the poll of terminal 2 goes out on DTX as characters of 11 bits, start bit, data from the least significant bit,
mark, stop bit: the address character 2 and the data character 1 first; once it is sent DTX idles. A stop bit that is not
at the stop level is a framing fault. -/
theorem test_dtx_of_a_poll :
    after (exec .pollStart (gates .idle true)) (fun t => t.desk.ddir && (t.desk.dtxBits.map List.length == some 55) &&
      t.desk.dtxBits.map (List.take 22) ==
        some [false, false, true, false, false, false, false, false, false, true, true,
          false, true, false, false, false, false, false, false, false, false, true]) = true ∧
    (gates (.exchange { terminal := 1, ready := true, carries := none, frame := [], phase := .waiting }) false).desk.dtx = none ∧
    LineChar.ofBits (List.replicate 10 true ++ [false]) = none := by decide +kernel

/-- R86, third row: an address character within a reply makes it a miss, with quiet time. -/
theorem test_address_character_within_a_reply :
    after (exec (.replyAddressCharacter 18#8) (gates (replying true) false)) (fun t =>
      t.desk.line = .quiet && (t.terminal 1).misses = 1 && (t.terminal 1).consecutive = 1) = true := by decide +kernel

/-! ### Reports and notices (ch. 8 and ch. 9's examples) -/

/-- A book entry for today, USED. -/
def entry (pupil : Nat) (scope : Scope) (reason : Reason) : BookEntry :=
  { pupil := pupil, date := 9264, scope := scope, reason := reason, origin := .office, used := true,
    contradicted := false }

/-- Ch. 8: a report for tomorrow is stored after today's entries and applied to nothing. -/
theorem test_report_add_for_tomorrow :
    after (exec (.reportAdd 517#16 { year := 0x25#8, month := 0x05#8, day := 0x14#8 } 2#8 0#8 0#8)
      ((school 37200 .unexplained).withBook [entry 301 .s1 .family])) (fun t =>
      t.book.map BookEntry.date = [9264, 9265] && (t.pupilAt 517).map (fun p => p.mark1.value) = some .unexplained &&
      said t = [0#8, 0#8, 1#8, 0#8, 0#8, 0#8, 0#8, 0#8, 2#8]) = true := by decide +kernel

/-- Ch. 8: a report for today converts an UNEXPLAINED mark and is flagged USED. -/
theorem test_report_add_converts :
    after (exec (.reportAdd 517#16 { year := 0x25#8, month := 0x05#8, day := 0x13#8 } 0#8 2#8 1#8)
      (school 35400 .unexplained)) (fun t =>
      (t.pupilAt 517).map (fun p => (p.mark1.value, p.mark1.source, p.mark1.reason)) =
        some (.authorised, .report, some .family) && t.book.map BookEntry.used = [true]) = true := by decide +kernel

/-- A notice for the pupil in slot 517. -/
def notice (slot creation : Nat) (kind : NoticeKind) (state : NoticeState) : Notice :=
  { slot := slot, creation := creation, kind := kind, pupil := 517, number := 4102388, date := 9264, state := state,
    attempts := 0 }

/-- The school with notices in the queue. -/
def noticed (now : Nat) (m1 : MarkValue) (l : List Notice) : State :=
  (school now m1).withNotices
    { list := l, nextCreation := 3323, order := 0, hold := false, drawn := 0,
      counters := { zeroCounters with created := 42, delivered := 31, withdrawn := 11 - l.length } }

/-- Ch. 9, 09:53:05: DELIVERED for a notice superseded WITH_ARRIVAL removes it and creates an ARRIVED notice in the slot
now free. -/
theorem test_outcome_delivered_with_arrival :
    after (exec (.noticeOutcome 17#8 3321#16 0#8) (noticed 35585 .lateClosed
      [notice 17 3321 (.absence .s1) (.handed { date := 9264, seconds := 35162 } 423 .withArrival)])) (fun t =>
      t.notices.list.map (fun n => (n.slot, n.creation, n.kind, n.state)) = [(0, 3323, .arrived .s1, .ready)] &&
      t.notices.counters.delivered = 32 && (t.pupilAt 517).map (fun p => p.mark1.delivered) = some true) = true := by
  decide +kernel

/-- Ch. 9, 10:03:20: the 600th count-up makes a HANDED notice READY again with attempts 1. -/
theorem test_handed_timeout :
    after (exec .handedTimeout ((noticed 36200 .lateClosed
      [notice 17 3323 (.arrived .s1) (.handed { date := 9264, seconds := 35600 } 599 .none)]).withCountUps
        { bells := [], waits := [], releases := [], timeouts := [{ date := 9264, seconds := 36200 }] })) (fun t =>
      t.notices.list.map (fun n => (n.state, n.attempts)) = [(.ready, 1)]) = true := by decide +kernel

/-- Ch. 9, 09:53:20: an ARRIVED notice ranks before an ABSENCE and a LATE notice. -/
theorem test_notice_take_ranks :
    after (exec .noticeTake (noticed 35600 .lateClosed [notice 3 3320 (.absence .s1) .ready,
      notice 18 3322 (.late .s1 71 true) .ready, notice 17 3323 (.arrived .s1) .ready])) (fun t =>
      (said t).take 5 = [0#8, 1#8, 17#8, 0x0C#8, 0xFB#8]) = true := by decide +kernel

/-! ### Days and power (ch. 10's example) -/

/-- Ch. 10, Monday 08:52:10: a start of a set clock that shows another date than today starts a rollover. -/
theorem test_power_return_starts_rollover :
    after (exec .powerReturn ((State.reset.withClock
      { date := 9438, seconds := 31930, prescaler := 0, held := false, isSet := true }).withDays
        { State.reset.days with today := 9435 } |>.withPower { State.reset.power with mains := false })) (fun t =>
      t.days.rollover.map (fun r => (r.old, r.new, r.stage)) = some (9435, 9438, 2) &&
      t.power.record.cause = .powerReturn && t.power.record.time = { date := 9438, seconds := 31930 } &&
      t.link.raised = 0x40#8) = true := by decide +kernel

/-- R138, R176: a rollover waits at stage 1 for the sweep in flight, and its completion begins stage 2. -/
theorem test_rollover_waits_for_the_sweep :
    let stage (t : State) := t.days.rollover.map Rollover.stage
    let swept : SweepFlight := { request := { track := 2, session := .s1, byStart := false }
                                 dispatched := { date := 9264, seconds := 9 }, position := 2400
                                 counts := { offsite := 0, book := 0, unexplained := 0, offers := 0, left := 0 } }
    after (exec (.clockSet (dateField 9265) (timeField 5)) ((dayAt 0).withSweep { (dayAt 0).sweep with flight := some swept }))
      (fun t => stage t = some 1 && after (exec .rolloverStage2 t) (fun u => u = t) &&
        after (exec .sweepComplete t) fun u => stage u = some 2 &&
          after (exec .rolloverStage2 u) fun v => stage v = some 3) = true := by decide +kernel

/-- R183: both supplies lost, the battery first and then the main supply, make the next start a cold one. -/
theorem test_battery_lost_before_the_supply :
    after (exec .batteryLoss (dayAt 0)) (fun t => t.power.signature && after (exec .retainEntry t) (fun u =>
      !u.power.signature && after (exec .powerReturn u) (fun v => v.power.record.cause = .cold && v.clock.date = 0)))
      = true := by decide +kernel

/-- R116, R187: 128 pupils off site are counted and each of their entries of nine bytes is in the Arrival Processor's
answer, of which the link sends the 1,040 bytes that a payload may have (log 8). -/
theorem test_offsite_read_gives_each_entry :
    let s := (dayAt 0).withArrivals { State.reset.arrivals with
      offsite := (List.range 128).map fun n => { pupil := n, seconds := n, reason := .family } }
    (serveOffsiteRead s).2.length = 1154 ∧
    after (exec .offsiteRead s) (fun t =>
      (said t).take 4 = [0#8, 128#8, 0#8, 0#8] && (said t).length = 1040) = true := by decide +kernel

/-- R79, R188: a WAITING job ends with its rank and its seconds waited in two bytes. -/
theorem test_ring_read_seconds_waited :
    (encWaiting defaultParams.zoneRank { job 41 0x20#8 none with waited := 30 }).drop 10 = [5#8, 0#8, 30#8] := by
  decide +kernel

/-- Ch. 11's example, step 2: a NOTICE_TAKE that ends overlapped hands out nothing and is counted. -/
theorem test_overlapped_frame_is_counted :
    after (exec .noticeTake ((noticed 35600 .none [notice 5 812 (.late .s1 6 false) .ready]).withLink
      { State.reset.link with inHand := some { kind := 0x81#8, payload := [0#8], thenStart := false } })) (fun t =>
      t.link.overlapped = 1 && t.notices.list.map Notice.state = [.ready] && said t = [0#8]) = true := by decide +kernel

/-! ### The statements' hypotheses: the queue, the link and the clock -/

/-- The state that a command leaves. -/
def left (i : Instr) (s : State) : State :=
  match exec i s with
  | .next t => t
  | _ => s

/-- The blocks stopped: the supply has failed. -/
def dark : State := (dayAt 0).withPower { (dayAt 0).power with mains := false }

/-- A request in hand, its reply being sent. -/
def replyingTo (s : State) (thenStart : Bool) : State :=
  s.withLink { s.link with inHand := some { kind := 0x81#8, payload := [0#8], thenStart := thenStart } }

theorem witness_step_runs_front_command :
    (State.reset.withPending [.status, .subTick]).pending = .status :: [.subTick] ∧ State.reset.pending = [] := by
  decide +kernel

theorem witness_owners_alone_change_clock_today_cards :
    exec .status State.reset = .next (left .status State.reset) ∧ State.reset.power.signature = true ∧
    Instr.status ≠ .rolloverComplete ∧ Instr.status ≠ .subTick ∧ Instr.status ≠ .secondCountUp ∧
    (∀ d h, Instr.status ≠ .clockSet d h) ∧ (∀ x, Instr.status ≠ .clockTrim x) ∧
    (∀ a l, Instr.status ≠ .rollWrite a l) ∧ ∀ a, Instr.status ≠ .rollRemove a := by
  refine ⟨rfl, by decide, by decide, by decide, by decide, ?_, ?_, ?_, ?_⟩ <;> simp

theorem witness_ordinary_requests_are_answered :
    Instr.termClear.request = some (0x23#8, []) ∧ (turning 1 0).takesFrames = true ∧
    waitsForRollover .termClear = true ∧ (turning 1 0).rolling = true ∧
    said (left (.planRead 16#8) State.reset) = [3#8, 0#8] ∧ said (left (.planRead 0#8) State.reset) = [4#8] ∧
    said (left .partReset State.reset) = [0#8] := by decide +kernel

theorem witness_refused_requests_change_nothing :
    (Instr.planRead 16#8).request = some (0x31#8, [16#8]) ∧ State.reset.takesFrames = true ∧
    (∀ a l, Instr.planRead 16#8 ≠ .rollWrite a l) ∧
    exec (.planRead 16#8) State.reset = .next (left (.planRead 16#8) State.reset) ∧
    said (left (.planRead 16#8) State.reset) = 3#8 :: [0#8] ∧ 2 ≤ (3#8 : Byte).toNat := by
  refine ⟨by decide, by decide, by simp, rfl, by decide +kernel, by decide⟩

theorem witness_untaken_frames_do_nothing :
    (replyingTo State.reset false).linkUp = true ∧ (replyingTo State.reset false).link.overlaps = true ∧
    Instr.status.request.isSome = true ∧ dark.linkUp = false ∧ State.reset.takesFrames = true := by decide +kernel

theorem witness_config_parameters :
    State.reset.takesFrames = true ∧
    [0, 1, 12, 13].map (fun n => (paramTable.find? fun row => row.1 = n).map fun r => (r.2.1, r.2.2.1, r.2.2.2.1)) =
      [none, some (6, 0, 900), some (1, 0, 15), none] ∧
    (5#8 : Byte).toNat < 6 ∧ ¬ (6#8 : Byte).toNat < 6 ∧ (0 ≤ (900#16).toNat ∧ (900#16).toNat ≤ 900) ∧
    ¬ (0 ≤ (901#16).toNat ∧ (901#16).toNat ≤ 900) ∧ (15#16).toNat ≤ 15 ∧ ((12#8 : Byte) ≠ 12#8 ∨ (1#8 : Byte) ≠ 12#8) ∧
    (State.reset.terminal 0).state = .disabled ∧ ((gates (replying true) false).terminal 1).state ≠ .disabled ∧
    (gates (replying true) false).desk.exchangeWith 1 = true ∧ (gates (replying true) false).desk.exchangeWith 0 = false ∧
    (1#16).getLsbD 0 = true ∧ (1#16).getLsbD 3 = false := by decide +kernel

theorem witness_line_events_do_what_they_say :
    State.reset.linkUp = true ∧ State.reset.link.overlaps = false ∧ State.reset.link.receiver = .hunt ∧
    ((State.reset.withLink { State.reset.link with receiver := .inFrame false }).link.receiver = .inFrame false) ∧
    (replyingTo State.reset false).linkUp = true ∧
    (replyingTo State.reset false).link.inHand = some { kind := 0x81#8, payload := [0#8], thenStart := false } := by
  decide +kernel

theorem witness_frames_read_back_as_their_requests :
    (Instr.noticeOutcome 5#8 812#16 0#8).wellFormed = true ∧
    (Instr.noticeOutcome 5#8 812#16 0#8).request = some (0x69#8, [5#8, 3#8, 44#8, 0#8]) := by decide +kernel

theorem witness_faulty_frames_are_named :
    (List.replicate 1040 (0#8 : Byte)).length ≤ 1040 ∧
    [0#8, 0#8] ≠ bytes16 (crc16 (lengthBytes [] ++ 0x01#8 :: [])) ∧ namesRequest 0x07#8 = false ∧
    namesRequest 0x01#8 = true ∧ (∀ i : Instr, i.wellFormed = true → i.request ≠ some (0x01#8, [0#8])) ∧
    1040 < (4#8 : Byte).toNat * 256 + (17#8 : Byte).toNat := by
  refine ⟨Nat.le_of_eq List.length_replicate, by decide +kernel, by decide, by decide, ?_, by decide⟩
  intro i _ h
  cases i <;> simp [Instr.request] at h

/-- The clock of 2025-05-13 at a second and a sub-tick. -/
def ticking (seconds prescaler : Nat) (held isSet : Bool) : State :=
  (dayAt seconds).withClock { date := 9264, seconds := seconds, prescaler := prescaler, held := held, isSet := isSet }

theorem witness_sub_ticks_make_seconds :
    ((ticking 0 1022 false true).clockOk = true ∧ (ticking 0 1022 false true).clock.prescaler < 1023) ∧
    ((ticking 0 1023 true true).clockOk = true ∧ (ticking 0 1023 true true).clock.held = true) ∧
    ((ticking 86399 1023 false true).clockOk = true ∧ (ticking 86399 1023 false true).clock.seconds = 86399 ∧
      (ticking 86399 1023 false true).blocksRun = true ∧ (ticking 86399 1023 false true).days.rollover = none) ∧
    ((ticking 86398 1023 false false).clockOk = true ∧ (ticking 86398 1023 false false).clock.isSet = false) ∧
    (((turning 1 0).withClock { (turning 1 0).clock with prescaler := 1023, seconds := 86399 }).clockOk = true) ∧
    ((turning 4 0).clockOk = true ∧ dark.blocksRun = false ∧ dark.clockOk = true) := by decide +kernel

theorem witness_day_numbers_are_dates :
    (99 ≤ 99 ∧ 1 ≤ 12 ∧ 12 ≤ 12 ∧ 1 ≤ 31 ∧ 31 ≤ monthLength 99 12) ∧ 29 ≤ monthLength 24 2 ∧ ¬ 29 ≤ monthLength 25 2 ∧
    dayNumber 99 12 31 ≤ 36524 := by decide +kernel

theorem witness_clock_set_is_applied :
    (dayAt 36000).takesFrames = true ∧ (dayAt 36000).rolling = false ∧
    (99 ≤ 99 ∧ 1 ≤ 12 ∧ 12 ≤ 12 ∧ 1 ≤ 99 ∧ 99 ≤ 99 ∧ 23 ≤ 23 ∧ 59 ≤ 59) ∧
    (State.reset.takesFrames = true ∧ State.reset.rolling = false ∧ State.reset.clock.isSet = false) ∧
    (dayAt 36000).clock.date ≠ dayNumber 25 5 14 ∧ ¬ ((dayAt 36000).clock.isSet = false ∨
      (dayAt 36000).clock.date ≠ dayNumber 25 5 13) ∧
    (35699 + (dayAt 36000).params.reRing < (dayAt 36000).clock.seconds ∧
      ¬ 35700 + (dayAt 36000).params.reRing < (dayAt 36000).clock.seconds) := by decide +kernel

/-- A BCD byte of two digits, and its value. -/
def digits (b : Byte) : Prop := b.toNat / 16 ≤ 9 ∧ b.toNat % 16 ≤ 9

theorem witness_clock_set_checks_its_fields_in_order :
    ((turning 4 0).takesFrames = true ∧ (turning 4 0).rolling = true) ∧ State.reset.takesFrames = true ∧ State.reset.rolling = false ∧ ¬ digits 0x9A#8 ∧ digits 0x99#8 ∧ digits 0x13#8 ∧
    digits 0x12#8 ∧ digits 0x00#8 ∧ digits 0x01#8 ∧ digits 0x24#8 ∧ digits 0x23#8 ∧ digits 0x60#8 ∧ digits 0x59#8 := by
  unfold digits
  decide +kernel

theorem witness_clock_trim_has_four_cases :
    (State.reset.takesFrames = true ∧ State.reset.clock.isSet = false) ∧
    ((ticking 0 1023 false true).takesFrames = true ∧ (ticking 0 1023 false true).clock.isSet = true ∧
      (1024 : Int) ≤ ((ticking 0 1023 false true).clock.prescaler : Int) + (1#8 : Byte).toInt) ∧
    (ticking 0 1023 true true).clock.held = true ∧
    (0 ≤ ((ticking 0 0 false true).clock.prescaler : Int) + (0#8 : Byte).toInt ∧
      ((ticking 0 1023 false true).clock.prescaler : Int) + (0#8 : Byte).toInt ≤ 1023) ∧
    (((ticking 0 0 false true).clock.prescaler : Int) + (0xFF#8 : Byte).toInt < 0 ∧
      (ticking 0 0 false true).clock.held = false) ∧
    (((ticking 0 0 true true).clock.prescaler : Int) + (0xFF#8 : Byte).toInt < 0 ∧
      (ticking 0 0 true true).clock.held = true) := by decide +kernel

/-! ### The statements' hypotheses: the invariants -/

/-- A stored plan of track 2's day. -/
def plan7 : List PlanEntry := (track2 0).entries.map RunningEntry.entry

/-- A school day with something in every block: a plan stored and running, a pupil with an UNEXPLAINED mark and its
ABSENCE notice, a tap in the queue of an ONLINE terminal, a ring, a log record, a book entry, an off-site entry, and a
sweep in flight. -/
def rich : State :=
  let base := enrol (((dayAt 33100).withPlan 2 { track2 33100 with session1 := some .closing }).withPlans
    ((dayAt 0).plans.set 7 plan7)) (pupil 2 .unexplained .notRequired 9 37)
  ((((((((base.withParams { defaultParams with enabled := 7#4 }).withDesk (gates .idle true).desk).withRing
    contended.ring).withArrivals
      { offsite := [{ pupil := 517, seconds := 32000, reason := .family }], overwrites := 0, nextSequence := 1,
        log := [{ sequence := 0, stamp := { date := 9264, seconds := 32000 }, pupil := some 517, terminal := 0, isOut := true,
                  verdict := .signedOut, session := none, minutes := 0 }] }).withBook
    [{ pupil := 517, date := 9265, scope := .both, reason := .unwell, origin := .parent, used := false,
       contradicted := false }]).withSweep { queue := [], flight := some (sweeping 518), last := none }).withNotices
    { list := [notice 0 0 (.absence .s1) (.held 34801)], nextCreation := 1, order := 0, hold := false, drawn := 0,
      counters := { zeroCounters with created := 1 } }).withCountUps
    { bells := [{ date := 9264, seconds := 33100 }], waits := [], releases := [], timeouts := [] }).withPending
    [.tapJudgement]

/-- `rich` and a rollover's walk meet every invariant, and each answers a next state. -/
theorem witness_invariants :
    (rich.clockOk && rich.rollOk && rich.talliesOk && rich.notRequiredOk && rich.plansOk && rich.ring.ok && rich.deskOk &&
      rich.listsOk && rich.horizonOk && rich.statesHeld && rich.arrivals.logOk && rich.sweepsOk && rich.noticesOk &&
      rich.absencesOk && rich.notices.conserved) = true ∧ rich.notices.counters.created + 3 ≤ 65535 ∧
    step rich = .next (left .tapJudgement (rich.withPending [])) := by
  refine ⟨by decide +kernel, by decide +kernel, rfl⟩

/-- The roll of a rollover's walk, half walked: slot 517 waits for its new marks, and has a report for the last day of the
new day's horizon. -/
def walking : State :=
  ((enrol ((turning 4 517).withPlan 2 (track2 60000)) (pupil 2 .present .notRequired 9 37)).withBook
    [{ pupil := 517, date := 9279, scope := .both, reason := .unwell, origin := .parent, used := false,
       contradicted := false }]).withPending [.rolloverWalkSlot]

theorem witness_invariants_in_a_rollover :
    (walking.clockOk && walking.rollOk && walking.talliesOk && walking.notRequiredOk && walking.plansOk && walking.sweepsOk &&
      walking.listsOk && walking.horizonOk && walking.statesHeld && walking.noticesOk && walking.absencesOk) = true ∧
    step walking = .next (left .rolloverWalkSlot (walking.withPending [])) := by
  refine ⟨by decide +kernel, rfl⟩

/-! ### The statements' hypotheses: the roll, the bells and the rings -/

/-- A record for ROLL_WRITE, on a track. -/
def item (card : BitVec 32) (number : BitVec 24) (track : Byte) : RollItem :=
  { card := card, number := number, track := track, contact := 1#8 }

theorem witness_roll_write_writes_a_record :
    (dayAt 0).takesFrames = true ∧ (dayAt 0).rolling = false ∧
    ((2399#16).toNat < 2400 ∧ ¬ (2400#16).toNat < 2400 ∧ (1#32 ≠ 0#32) ∧ 1 ≤ (1#24).toNat ∧ (9999999#24).toNat ≤ 9999999 ∧
      ¬ (10000000#24).toNat ≤ 9999999 ∧ (5#8 : Byte).toNat < 6 ∧ ¬ (6#8 : Byte).toNat < 6) ∧
    ((dayAt 0).slotOfCard 1 = none ∧ (dayAt 0).pupilAt 2399 = none) ∧
    ((school 0 .unexplained).slotOfCard 0x00A1C3F0 = some 517 ∧
      (school 0 .unexplained).pupilAt 517 = some (pupil 2 .unexplained .notRequired 9 37) ∧
      (pupil 2 .unexplained .notRequired 9 37).track ≠ 4 ∧ ((school 0 .unexplained).plan 4).hasSession .s1 = false ∧
      ((school 0 .unexplained).plan 2).hasSession .s1 = true) := by decide +kernel

theorem witness_roll_write_takes_records_in_order :
    (dayAt 0).takesFrames = true ∧ (dayAt 0).rolling = false ∧ 24 < (List.replicate 25 (item 1#32 1#24 0#8)).length ∧
    [item 2#32 2#24 0#8] ≠ [] ∧ (List.replicate 23 (item 2#32 2#24 0#8)).length < 24 ∧
    exec (.rollWrite 0#16 [item 0#32 1#24 0#8]) (dayAt 0) = .next (left (.rollWrite 0#16 [item 0#32 1#24 0#8]) (dayAt 0)) ∧
    (left (.rollWrite 0#16 [item 0#32 1#24 0#8]) (dayAt 0)).link.inHand =
      some { kind := 0xA0#8, payload := [3#8, 1#8], thenStart := false } ∧
    exec (.rollWrite 0#16 [item 1#32 1#24 0#8]) (dayAt 0) = .next (left (.rollWrite 0#16 [item 1#32 1#24 0#8]) (dayAt 0)) ∧
    (left (.rollWrite 0#16 [item 1#32 1#24 0#8]) (dayAt 0)).link.inHand =
      some { kind := 0xA0#8, payload := [0#8, 1#8], thenStart := false } := by
  refine ⟨by decide +kernel, by decide +kernel, by decide, by simp, by decide, rfl, by decide +kernel, rfl, by decide +kernel⟩

theorem witness_roll_remove_takes_the_pupil_out :
    (school 0 .none).takesFrames = true ∧ (school 0 .none).rolling = false ∧ 2400 ≤ (2400#16).toNat ∧
    ((2399#16).toNat < 2400 ∧ (school 0 .none).pupilAt 2399 = none) ∧
    (school 0 .none).pupilAt 517 = some (pupil 2 .none .notRequired 9 37) ∧
    (school 0 .none).notices.counters.withdrawn + (school 0 .none).notices.list.length ≤ 65535 := by decide +kernel

theorem witness_tallies_are_cleared :
    (school 0 .none).takesFrames = true ∧ (school 0 .none).rolling = false ∧ (turning 3 0).blocksRun = true ∧
    (turning 3 0).days.rollover = some (rollover 3 0) ∧ (rollover 3 0).stage = 3 ∧
    (rollover 3 0).termStart = some true := by decide +kernel

theorem witness_mark_set_is_refused :
    (school 32000 .none).takesFrames = true ∧ (school 32000 .none).rolling = false ∧
    (2400 ≤ (2400#16).toNat ∧ (2399#16).toNat < 2400) ∧ ¬ ((3#8 : Byte) = 1#8 ∨ (3#8 : Byte) = 2#8) ∧
    ¬ ((4#8 : Byte) = 2#8 ∨ (4#8 : Byte) = 3#8) ∧ ¬ (6#8 : Byte).toNat ≤ 5 ∧ (5#8 : Byte).toNat ≤ 5 ∧
    ¬ (1#8 = 2#8 ∨ (1#8 : Byte) = 3#8) ∧ ¬ (2#8 : Byte).toNat ≤ 1 ∧ (1#8 : Byte).toNat ≤ 1 ∧
    (school 32000 .none).pupilAt 2399 = none ∧
    ((school 37800 .none).pupilAt 517 = some (pupil 2 .none .notRequired 9 37) ∧ [1#8] = encSession .s1 ∧
      ((school 37800 .none).plan 2).session .s1 ≠ some .opened ∧ ((school 37800 .none).plan 2).session .s1 ≠ some .notOpen ∧
      ((pupil 2 .none .notRequired 9 37).mark .s2).value = .notRequired) := by decide +kernel

theorem witness_mark_set_replaces_the_mark :
    (school 32000 .none).takesFrames = true ∧ (school 32000 .none).rolling = false ∧ (517#16).toNat < 2400 ∧
    (school 32000 .none).pupilAt 517 = some (pupil 2 .none .notRequired 9 37) ∧ [1#8] = encSession .s1 ∧
    [2#8] = encMarkValue .late ∧ (255#8 : Byte) ≠ 0#8 ∧
    (((school 32000 .none).plan 2).day = .active ∧ ((school 32000 .none).plan 2).session .s1 = some .opened ∧
      ((pupil 2 .none .notRequired 9 37).mark .s1).value = .none) ∧
    ([4#8] = encMarkValue .authorised ∧ (reasonOf 5#8).isSome = true ∧ (1#8 : Byte).toNat ≤ 1 ∧
      ((pupil 2 .none .notRequired 9 37).mark .s1).value ≠ .notRequired) := by decide +kernel

theorem witness_plans_are_stored_and_read_back :
    (dayAt 0).takesFrames = true ∧ (dayAt 0).rolling = false ∧ plan7.length ≤ 40 ∧ PlanValid [] ∧
    (16 ≤ (16#8 : Byte).toNat ∧ (15#8 : Byte).toNat < 16) ∧
    40 < (List.replicate 41 ({ time := midnight, kind := 0#8, session := 0#8, zones := 0#8, pattern := 0#8 } : PlanItem)).length ∧
    (∀ e ∈ plan7.drop 1, e.time < Config.daySeconds) ∧ PlanValid ((plan7.drop 1).take 0) ∧
    ¬ PlanValid ((plan7.drop 1).take 1) ∧
    (3 < (4#8 : Byte).toNat ∧ 16 ≤ (16#8 : Byte).toNat ∧ (3#8 : Byte) ≠ 1#8 ∧ (3#8 : Byte) ≠ 2#8 ∧
      (15#8 : Byte).toNat = (15 : Fin 16).val ∧ (turning 4 0).takesFrames = true) := by
  refine ⟨by decide +kernel, by decide +kernel, by decide, ?_, by decide, by decide, by decide +kernel, ?_, ?_, by decide +kernel⟩
  · intro j e h
    simp at h
  · intro j e h
    simp at h
  · intro h
    obtain ⟨i, f, hi, _⟩ := ((h 0 (running 33000 (.registerClose .s1) 0#8 0 .pending).entry rfl).2.2.1) .s1 rfl
    omega

theorem witness_track_delay_shifts_pending_entries :
    delayed.takesFrames = true ∧ delayed.rolling = false ∧ 6 ≤ (6#8 : Byte).toNat ∧
    ((0xC3#8 : Byte).toInt < -60 ∧ 120 < (121#8 : Byte).toInt) ∧ (-60 ≤ (0xC4#8 : Byte).toInt ∧ (120#8 : Byte).toInt ≤ 120) ∧
    (delayed.plan 0).day = .ended ∧ ((delayed.plan 3).day = .active ∧ (delayed.plan 3).entries[5]? = none) ∧
    (delayed.plan 3).entries[2]? = some (running 34200 (.registerClose .s1) 0#8 0 .rung) ∧
    (delayed.plan 3).entries[3]? = some (running 37800 .plain 4#8 2 .pending) ∧
    trialOk (shiftFrom (delayed.plan 3).entries 3 7200) 3 = true ∧
    trialOk (shiftFrom (delayed.plan 3).entries 3 (-3660)) 3 = false := by decide +kernel

theorem witness_track_insert_places_new_entries :
    delayed.takesFrames = true ∧ delayed.rolling = false ∧ (6 ≤ (6#8 : Byte).toNat ∧ (List.replicate 5 assembly) ≠ []) ∧
    4 < (List.replicate 5 assembly).length ∧ (List.replicate 4 assembly).length ≤ 4 ∧ (delayed.plan 0).day = .ended ∧
    ((delayed.plan 3).day = .active ∧ inOrder (delayed.plan 3).entries = true) ∧
    (assembly.time = timeField 36300 ∧ delayed.clock.seconds < 36300 ∧ assembly.pattern.toNat < 16) ∧
    (delayed.clock.seconds < 35101 ∧ 86399 ≤ 86399 ∧ ¬ delayed.clock.seconds < 35100) ∧
    (delayed.plan 3).entries.length + 4 ≤ 44 ∧ (delayed.plan 3).insertedCount + 4 ≤ 4 ∧
    4 < (({ delayed.plan 3 with entries := (delayed.plan 3).entries.map fun e => { e with inserted := true } } :
      RunningPlan).insertedCount + 1) := by decide +kernel

theorem witness_track_silence_sets_the_flag :
    delayed.takesFrames = true ∧ delayed.rolling = false ∧ 6 ≤ (6#8 : Byte).toNat ∧
    (5#8 : Byte).toNat = (5 : Track).val ∧ 1 < (2#8 : Byte).toNat ∧ (1#8 : Byte).toNat ≤ 1 := by decide +kernel

/-- A running plan whose three entries are the three cases of R54, in the band, beyond the window and on time, with
the actions of a session. -/
def firing : State :=
  (caughtUp.withCountUps { caughtUp.countUps with bells := [{ date := 9264, seconds := 36360 }] }).withPlan 3
    (runs (some .notOpen) none [running 36299 (.sessionOpen .s1) 1#8 0 .pending,
      running 36300 (.registerClose .s1) 1#8 0 .pending, running 36360 .dayClose 1#8 0 .pending])

theorem witness_due_entries_fire :
    firing.blocksRun = true ∧ firing.countUps.bells = { date := 9264, seconds := 36360 } :: [] ∧
    firing.clock.isSet = true ∧ firing.rolling = false ∧ (firing.plan 3).due 36360 = [0, 1, 2] ∧
    (firing.plan 3).beyondWindow 36360 60 [0, 1, 2] = true ∧ (firing.plan 3).bandLast 36360 60 [0, 1, 2] = some 1 := by
  decide +kernel

theorem witness_nothing_fires :
    (let s := firing.withClock { firing.clock with isSet := false };
      s.blocksRun = true ∧ s.countUps.bells = { date := 9264, seconds := 36360 } :: [] ∧ s.clock.isSet = false) ∧
    (let s := firing.withDays (turning 4 0).days;
      s.blocksRun = true ∧ s.countUps.bells = { date := 9264, seconds := 36360 } :: [] ∧ s.rolling = true) := by
  decide +kernel

theorem witness_entry_of_each_kind_fires :
    (firing.plan 3).fires 36360 2 ∧ (firing.plan 3).rings 36360 60 2 ∧ (firing.plan 3).rings 36360 60 1 ∧
    (firing.plan 3).firesBeyond 36360 60 0 ∧
    (firing.plan 3).firesLast 36360 (.registerClose .s1) (.sessionOpen .s1) ∧ ¬ (firing.plan 3).fires 36299 1 := by
  have at_ : ∀ (i : Nat) (f : RunningEntry), (firing.plan 3).entries[i]? = some f →
      (i = 0 ∧ f = running 36299 (.sessionOpen .s1) 1#8 0 .pending) ∨
        (i = 1 ∧ f = running 36300 (.registerClose .s1) 1#8 0 .pending) ∨
          (i = 2 ∧ f = running 36360 .dayClose 1#8 0 .pending) := by
    intro i f h
    match i, h with
    | 0, h => exact .inl ⟨rfl, (Option.some.inj h).symm⟩
    | 1, h => exact .inr (.inl ⟨rfl, (Option.some.inj h).symm⟩)
    | 2, h => exact .inr (.inr ⟨rfl, (Option.some.inj h).symm⟩)
    | n + 3, h => cases h
  have due : ∀ (i : Nat) (f : RunningEntry), (firing.plan 3).entries[i]? = some f → f.effective ≤ (36360 : Nat) := by
    intro i f h
    rcases at_ i f h with ⟨_, rfl⟩ | ⟨_, rfl⟩ | ⟨_, rfl⟩ <;> decide
  have fires : ∀ (i : Nat) (f : RunningEntry), (firing.plan 3).entries[i]? = some f → f.state = .pending →
      (firing.plan 3).fires 36360 i := fun i f h p => ⟨⟨f, h, p⟩, fun j g _ hg _ => due j g hg⟩
  refine ⟨fires 2 _ rfl rfl, ⟨rfl, fires 2 _ rfl rfl, .inl ?_⟩, ⟨rfl, fires 1 _ rfl rfl, .inr ⟨⟨fires 1 _ rfl rfl, ?_⟩, ?_⟩⟩,
    ⟨fires 0 _ rfl rfl, ?_⟩, ⟨1, _, fires 1 _ rfl rfl, rfl, rfl, ?_⟩, ?_⟩
  · rintro e ⟨⟩
    decide
  · rintro e ⟨⟩
    decide
  · intro i hi h
    rcases at_ i _ h.1.1.choose_spec.1 with ⟨rfl, he⟩ | ⟨rfl, he⟩ | ⟨rfl, he⟩
    · omega
    · omega
    · have := (h.2 _ h.1.1.choose_spec.1).1
      rw [he] at this
      revert this
      decide
  · rintro e ⟨⟩
    decide
  · intro i f hi _ hf
    rcases at_ i f hf with ⟨rfl, _⟩ | ⟨rfl, _⟩ | ⟨rfl, rfl⟩
    · omega
    · omega
    · decide
  · intro h
    have := h.2 1 _ (Nat.le_refl 1) rfl rfl
    revert this
    decide

/-- An on-time entry of a track whose tonal pattern finds the chime line held and 8 jobs waiting. -/
def crowded : State :=
  ((firing.withRing { contended.ring with
    jobs := job 40 0x10#8 (playing true) :: (List.range 8).map fun n => job n 0x20#8 none }).withPlan 3
      (runs none none [running 36360 .plain 1#8 5 .pending]))

theorem witness_a_request_of_a_firing_degrades :
    crowded.blocksRun = true ∧ (crowded.plan 3).due 36360 = [0] ∧ (crowded.plan 3).silence = false ∧
    ((crowded.plan 3).entries[0]?).map (fun e => (e.effective, e.entry.pattern)) = some (36360, 5) ∧
    (∃ p ∈ crowded.ring.patterns[(5 : Fin 16)], p.tone ≠ 0) ∧ crowded.ring.holder ≠ none ∧
    8 ≤ (crowded.ring.jobs.filter fun m => m.play = none).length ∧ (crowded.plan 3).beyondWindow 36360 60 [0] = false := by
  decide +kernel

/-- A step of PATTERN_LOAD at the greatest tone and repeats. -/
def stepItem (tone repeats : Byte) : StepItem := { tone := tone, onUnits := 1#8, offUnits := 0#8, repeats := repeats }

theorem witness_patterns_are_stored_and_read_back :
    contended.takesFrames = true ∧ (16 ≤ (16#8 : Byte).toNat ∧ (15#8 : Byte).toNat < 16) ∧
    ((5#8 : Byte).toNat = (5 : Fin 16).val ∧ contended.ring.patterns[(5 : Fin 16)] ≠ [] ∧
      (dayAt 0).ring.patterns[(5 : Fin 16)] = []) ∧ 8 < (List.replicate 9 (stepItem 8#8 15#8)).length ∧ (List.replicate 8 (stepItem 8#8 15#8)).length ≤ 8 ∧
    (∀ x ∈ List.replicate 8 (stepItem 8#8 15#8), x.tone.toNat ≤ 8 ∧ 1 ≤ x.onUnits.toNat ∧ 1 ≤ x.repeats.toNat ∧
      x.repeats.toNat ≤ 15) ∧ ¬ (stepItem 9#8 15#8).tone.toNat ≤ 8 ∧ ¬ (stepItem 8#8 16#8).repeats.toNat ≤ 15 := by
  decide +kernel

/-- The line held by job 40, with as many jobs waiting as given. -/
def lined (waiting : Nat) : State :=
  contended.withRing { contended.ring with
    jobs := job 40 0x10#8 (playing true) :: (List.range waiting).map fun n => job n 0x20#8 none }

theorem witness_ring_now_has_four_outcomes :
    contended.takesFrames = true ∧ 16 ≤ (16#8 : Byte).toNat ∧ (∀ j ∈ contended.ring.jobs, j.number ≠ contended.ring.nextJob) ∧
    (contended.ring.patterns[(0 : Fin 16)].any fun p => p.tone ≠ 0) = false ∧
    (contended.ring.patterns[(5 : Fin 16)].any fun p => p.tone ≠ 0) = true ∧ (dayAt 0).ring.holder = none ∧
    contended.ring.holder ≠ none ∧ ((lined 7).ring.jobs.filter fun m => m.play = none).length < 8 ∧
    (8 ≤ ((lined 8).ring.jobs.filter fun m => m.play = none).length ∧
      ∀ j ∈ (lined 8).ring.jobs, j.number ≠ (lined 8).ring.nextJob) := by decide +kernel

theorem witness_ring_stop_ends_and_grants :
    contended.takesFrames = true ∧ contended.ring.jobs.any Job.holds = true ∧
    (let left := contended.ring.jobs.drop 1;
      left.any Job.holds = false ∧ left.all (fun m => m.play ≠ none) = false) := by decide +kernel

theorem witness_periods_follow_the_pattern :
    contended.blocksRun = true ∧ contended.ring.jobs.find? (Job.playsAs (40#16).toNat) = some (job 40 0x10#8 (playing true)) ∧
    (job 40 0x10#8 (playing true)).play = some { step := 0, repeatsLeft := 1, sounding := true, holdsChime := true } ∧
    (job 40 0x10#8 (playing true)).steps[0]? = some { tone := 2, onUnits := 40, offUnits := 0, repeats := 1 } ∧
    (job 40 0x10#8 (playing true)).steps[1]? = none := by decide +kernel

/-- Two steps of two repeats, each with an off period. -/
def twoSteps : List PatternStep :=
  [{ tone := 2, onUnits := 40, offUnits := 20, repeats := 2 }, { tone := 3, onUnits := 10, offUnits := 5, repeats := 2 }]

/-- Job 40 on two steps of two repeats, in a period of one of them, with job 41 waiting for the line. -/
def stepped (p : Play) : State :=
  contended.withRing { contended.ring with
    jobs := [{ job 40 0x10#8 (some p) with steps := twoSteps }, job 41 0x40#8 none] }

/-- The hypotheses of `periods_follow_the_pattern` on a play of job 40 in a step of two steps. -/
def inStep (p : Play) (q : PatternStep) : Prop :=
  (stepped p).blocksRun = true ∧
    (stepped p).ring.jobs.find? (Job.playsAs (40#16).toNat) = some { job 40 0x10#8 (some p) with steps := twoSteps } ∧
    twoSteps[p.step]? = some q

theorem witness_on_period_has_an_off_period :
    let p : Play := { step := 0, repeatsLeft := 2, sounding := true, holdsChime := true }
    inStep p { tone := 2, onUnits := 40, offUnits := 20, repeats := 2 } ∧ p.sounding = true ∧ (20 : Nat) ≠ 0 := by
  unfold inStep
  decide +kernel

theorem witness_off_period_ends_in_the_next_repeat :
    let p : Play := { step := 0, repeatsLeft := 2, sounding := false, holdsChime := true }
    inStep p { tone := 2, onUnits := 40, offUnits := 20, repeats := 2 } ∧ p.sounding = false ∧ 1 < p.repeatsLeft := by
  unfold inStep
  decide +kernel

theorem witness_off_period_ends_in_the_next_step :
    let p : Play := { step := 0, repeatsLeft := 1, sounding := false, holdsChime := true }
    inStep p { tone := 2, onUnits := 40, offUnits := 20, repeats := 2 } ∧ p.sounding = false ∧ p.repeatsLeft ≤ 1 ∧
      twoSteps[p.step + 1]? = some { tone := 3, onUnits := 10, offUnits := 5, repeats := 2 } := by
  unfold inStep
  decide +kernel

theorem witness_off_period_ends_the_pattern :
    let p : Play := { step := 1, repeatsLeft := 1, sounding := false, holdsChime := true }
    inStep p { tone := 3, onUnits := 10, offUnits := 5, repeats := 2 } ∧ p.sounding = false ∧ p.repeatsLeft ≤ 1 ∧
      twoSteps[p.step + 1]? = none := by
  unfold inStep
  decide +kernel

/-- R69: an off period ends in the next repeat, and the last of a step's in the next step with its repeats. -/
theorem test_off_period_end_goes_on :
    after (exec (.offPeriodEnd 40#16) (stepped { step := 0, repeatsLeft := 2, sounding := false, holdsChime := true }))
      (fun t => (t.ring.jobs.map Job.play).head? =
        some (some { step := 0, repeatsLeft := 1, sounding := true, holdsChime := true })) = true ∧
    after (exec (.offPeriodEnd 40#16) (stepped { step := 0, repeatsLeft := 1, sounding := false, holdsChime := true }))
      (fun t => (t.ring.jobs.map Job.play).head? =
        some (some { step := 1, repeatsLeft := 2, sounding := true, holdsChime := true })) = true := by decide +kernel

theorem witness_waits_end_in_degrades :
    let s := (lined 2).withCountUps { (lined 2).countUps with waits := [{ date := 9264, seconds := 37804 }] }
    s.blocksRun = true ∧ s.countUps.waits = { date := 9264, seconds := 37804 } :: [] ∧ s.ring.degradedToday ≤ 65535 ∧
    s.params.chimeWait = 60 ∧ (s.ring.waiting.filter fun j => 60 ≤ j.waited + 1) = [] ∧
    (let late := s.withRing { s.ring with jobs := s.ring.jobs.map fun j => { j with waited := 59 } };
      late.blocksRun = true ∧ (late.ring.waiting.filter fun j => 60 ≤ j.waited + 1) ≠ []) := by decide +kernel

/-! ### The statements' hypotheses: the desk line, arrivals and the sweep -/

theorem witness_polls_begin_as_chosen :
    (gates .idle false).blocksRun = true ∧ ((gates .idle false).terminal 2).state = .offline ∧
    (gates .idle false).desk.line = .idle ∧ (gates .idle false).desk.choose = some 1 ∧
    ((gates .idle false).putTerminal 2 { coldTerminal with state := .offline, due := true }).desk.choose = some 2 ∧
    ((gates (replying true) false).desk.line ≠ .idle ∧ State.reset.desk.choose = none) := by decide +kernel

theorem witness_pollsNext_of_the_round :
    (gates .idle false).desk.pollsNext 1 ∧ ¬ (gates .idle false).desk.pollsNext 0 ∧ ∀ a, ¬ State.reset.desk.pollsNext a := by
  have off : ∀ a : Fin 4, State.reset.desk.terminals[a].state = .disabled := by decide +kernel
  refine ⟨.inr ⟨?_, by decide +kernel, .inl ⟨by decide +kernel, by decide +kernel⟩⟩, ?_, ?_⟩
  · unfold Desk.awaitsOffline
    decide +kernel
  · rintro (⟨⟨h, _⟩, _⟩ | ⟨_, _, ⟨h, _⟩ | ⟨h, _⟩⟩)
    · exact absurd h (by decide +kernel)
    · exact absurd h (by decide)
    · exact absurd rfl (h 1 (by decide))
  · rintro a (⟨⟨h, _⟩, _⟩ | ⟨_, h, _⟩)
    · rw [off a] at h
      cases h
    · rw [off a] at h
      cases h

/-- An exchange with terminal 2 in a phase. -/
def exchanging (phase : ExchangePhase) : Exchange :=
  { terminal := 1, ready := true, carries := none, frame := [], phase := phase }

theorem witness_phases_of_an_exchange :
    [ExchangePhase.sending, .waiting, .receiving 18#8].map (fun p => (gates (.exchange (exchanging p)) false).desk.line) =
      [.exchange (exchanging .sending), .exchange (exchanging .waiting), .exchange (exchanging (.receiving 18#8))] ∧
    (gates (.exchange (exchanging .waiting)) false).blocksRun = true := by decide +kernel

theorem witness_exchanges_end_in_replies_or_misses :
    ((gates .quiet false).blocksRun = true ∧ (gates .quiet false).desk.line = .quiet) ∧
    (18#8 : Byte).toNat = (1 : Fin 4).val + 17 ∧ (17#8 : Byte).toNat ≠ (1 : Fin 4).val + 17 ∧
    sumOf [1#8, 0x00#8, 0xC0#8, 0xFF#8, 0xEE#8, 1#8, 0#8, 0x51#8] % 256 = 0 ∧ tapCodes 1#8 0#8 .tapIn ∧
    tapCodes 2#8 4#8 (.tapOut .otherAuthorised) ∧ sumOf [0#8, 1#8] % 256 ≠ 0 ∧
    ((exchanging .waiting).ready = true ∧ replying false ≠ replying true) ∧
    ((gates .idle false).terminal 1).state = .online ∧ ((gates .idle false).terminal 2).state ≠ .online ∧
    (0 + 1 < 3 ∧ ¬ 2 + 1 < 3) := by
  refine ⟨by decide +kernel, by decide, by decide, by decide, rfl, ⟨rfl, rfl⟩, by decide, by decide, by decide +kernel,
    by decide +kernel, by decide⟩

/-- The tap of `tapped`. -/
def aTap (stamp : Nat) (kind : TapKind) : Tap :=
  { stamp := { date := 9264, seconds := stamp }, terminal := 1, card := 0x00A1C3F0, kind := kind }

/-- The school's pupil on the off-site list as well, with a tap. -/
def backAgain (now : Nat) (m1 : MarkValue) (kind : TapKind) : State :=
  (tapped now now m1 kind).withArrivals
    { State.reset.arrivals with offsite := [{ pupil := 517, seconds := 32000, reason := .family }] }

theorem witness_taps_are_judged_before_a_session :
    (tapped 33000 33000 .none .tapIn).blocksRun = true ∧ (tapped 33000 33000 .none .tapIn).rolling = false ∧
    (tapped 33000 33000 .none .tapIn).desk.taps = aTap 33000 .tapIn :: [] ∧
    ((dayAt 0).slotOfCard (aTap 33000 .tapIn).card = none) ∧
    ((tapped 33000 33000 .none .tapIn).slotOfCard (aTap 33000 .tapIn).card = some 517 ∧
      (tapped 33000 33000 .none .tapIn).pupilAt 517 = some (pupil 2 .none .notRequired 9 37)) ∧
    State.reset.clock.isSet = false ∧ (tapped 33000 33000 .none .tapIn).clock.isSet = true ∧
    ((aTap 33000 .tapIn).stamp.date = (tapped 33000 33000 .none .tapIn).days.today ∧ (9263 : Nat) ≠ 9264) ∧
    (∃ e ∈ (backAgain 33000 .none .tapIn).arrivals.offsite, e.pupil = 517) ∧
    (tapped 33000 33000 .none .tapIn).arrivals.offsite.length < 128 ∧ ((dayAt 0).plan 2).entries = [] ∧
    ((tapped 33000 33000 .none .tapIn).plan 2).entries ≠ [] ∧
    ((tapped 33000 33000 .none .tapIn).plan 2).day = .active := by decide +kernel

/-- On track 2 at 33,000 the day is open for session 1 with 1,680 s of lateness after the grace, at its register's
close, and at 56,400 it is over; at 31,319 a stamp is on time. -/
theorem witness_taps_are_judged_for_a_session :
    ((tapped 33000 33000 .none .tapIn).plan 2).refersTo 33000 .s1 ∧
    ¬ ((tapped 33000 33000 .none .tapIn).plan 2).overFor 33000 ∧
    ((tapped 56400 56400 .none .tapIn).plan 2).overFor 56400 ∧
    ((tapped 33000 33000 .none .tapIn).plan 2).lateFor .s1 33000 120 1680 true ∧
    ((tapped 33000 32999 .none .tapIn).plan 2).lateFor .s1 32999 120 1679 false ∧
    (∀ l shut, ¬ ((tapped 33000 31320 .none .tapIn).plan 2).lateFor .s1 31320 120 l shut) ∧
    ((pupil 2 .none .notRequired 9 37).mark .s1).value = .none ∧
    ((pupil 2 .none .notRequired 9 37).mark .s2).value = .notRequired := by
  refine ⟨?_, ?_, ?_, ⟨running 31200 (.sessionOpen .s1) 0#8 0 .rung, rfl, by decide, by decide, by decide, by decide, ?_⟩,
    ⟨running 31200 (.sessionOpen .s1) 0#8 0 .rung, rfl, by decide, by decide, by decide, by decide, ?_⟩, ?_, rfl, rfl⟩
  · constructor
    · rintro ⟨⟩
    · rintro ⟨e, h, _⟩
      have : ((tapped 33000 33000 .none .tapIn).plan 2).openEntry .s2 = none := by decide +kernel
      rw [this] at h
      cases h
  · rintro ⟨e, h, hk, hs, _⟩
    have : ((tapped 33000 33000 .none .tapIn).plan 2).entries = [running 31200 (.sessionOpen .s1) 0#8 0 .rung,
      running 33000 (.registerClose .s1) 0#8 0 .rung, running 56400 .dayClose 0#8 0 .pending] := by decide +kernel
    rw [this] at h
    simp only [List.mem_cons, List.not_mem_nil, or_false] at h
    rcases h with rfl | rfl | rfl
    · exact absurd hk (by decide)
    · exact absurd hk (by decide)
    · exact hs rfl
  · exact ⟨running 56400 .dayClose 0#8 0 .rung, by decide +kernel, rfl, by decide, by decide⟩
  · exact ⟨fun _ => ⟨running 33000 (.registerClose .s1) 0#8 0 .rung, rfl, by decide⟩, fun _ => rfl⟩
  · refine ⟨nofun, ?_⟩
    rintro ⟨c, h, hc⟩
    cases h
    revert hc
    decide
  · rintro l shut ⟨e, h, _, _, hl, he, _⟩
    cases h
    revert he hl
    simp only [running, RunningEntry.effective]
    omega

theorem witness_office_requests_judge_like_taps :
    (school 33000 .none).takesFrames = true ∧ (school 33000 .none).rolling = false ∧ 2400 ≤ (2400#16).toNat ∧
    ((2399#16).toNat < 2400 ∧ (school 33000 .none).pupilAt 2399 = none) ∧
    ((3#8 : Byte) ≠ 0#8 ∧ (3#8 : Byte) ≠ 1#8 ∧ (3#8 : Byte) ≠ 2#8 ∧ (3#8 : Byte) ≠ 5#8) ∧ [5#8] = encReason .otherAuthorised ∧
    ((school 33000 .none).pupilAt 517 = some (pupil 2 .none .notRequired 9 37) ∧
      (school 33000 .none).slotOfCard (pupil 2 .none .notRequired 9 37).card = some 517) := by decide +kernel

/-- The school with a sweep in flight or a request waiting. -/
def swept (queue : List SweepRequest) (flight : Option SweepFlight) : State :=
  (school 33001 .none).withSweep { queue := queue, flight := flight, last := none }

theorem witness_sweeps_settle_marks :
    (swept [(sweeping 0).request] none).blocksRun = true ∧ (swept [(sweeping 0).request] none).sweep.flight = none ∧
    (swept [(sweeping 0).request] none).sweep.queue = (sweeping 0).request :: [] ∧
    ((swept [] (some (sweeping 2399))).sweep.flight = some (sweeping 2399) ∧ (sweeping 2399).position < 2400 ∧
      (swept [] (some (sweeping 2399))).pupilAt 2399 = none) ∧
    ((swept [] (some (sweeping 517))).pupilAt 517 = some (pupil 2 .none .notRequired 9 37) ∧
      (pupil 2 .none .notRequired 9 37).track = (sweeping 517).request.track ∧
      ((pupil 2 .none .notRequired 9 37).mark .s1).value = .none ∧
      (swept [] (some (sweeping 517))).book = [] ∧
      (swept [] (some (sweeping 517))).params.absenceNotices[(2 : Track)] = true) ∧
    ([entry 517 .s2 .unwell].find? fun e => e.pupil = 517 && e.date = (school 33001 .none).days.today) =
      some (entry 517 .s2 .unwell) ∧
    ((some (entry 517 .both .unwell)).filter fun e => e.scope = .both) = some (entry 517 .both .unwell) ∧
    ((backAgain 33001 .none .tapIn).arrivals.offsite.find? fun e => e.pupil = 517) =
      some { pupil := 517, seconds := 32000, reason := .family } ∧
    ((swept [] (some (sweeping 2400))).sweep.flight = some (sweeping 2400) ∧ 2400 ≤ (sweeping 2400).position) := by
  decide +kernel

/-! ### The statements' hypotheses: the book, notices, days and power -/

theorem witness_reports_are_added_and_cancelled :
    (school 33001 .unexplained).takesFrames = true ∧ (school 33001 .unexplained).rolling = false ∧
    State.reset.clock.isSet = false ∧ 2400 ≤ (2400#16).toNat ∧ (2399#16).toNat < 2400 ∧
    ({ year := 0x25#8, month := 0x05#8, day := 0x13#8 } : DateField) = dateField 9264 ∧
    ({ year := 0x25#8, month := 0x05#8, day := 0x27#8 } : DateField) = dateField 9278 ∧
    (9264 ≤ 9278 ∧ 9278 ≤ 9264 + 14 ∧ 9278 ≤ 36524) ∧
    (3 < (4#8 : Byte).toNat ∧ (3#8 : Byte).toNat ≤ 3 ∧ 5 < (6#8 : Byte).toNat ∧ 1 < (2#8 : Byte).toNat) ∧
    ((school 33001 .unexplained).pupilAt 2399 = none ∧
      (school 33001 .unexplained).pupilAt 517 = some (pupil 2 .unexplained .notRequired 9 37)) ∧
    [3#8] = encScope .arrivingLate ∧ [5#8] = encReason .otherAuthorised ∧ [1#8] = encReportOrigin .office ∧
    (school 33001 .unexplained).book.length < 256 ∧ 256 ≤ (List.replicate 256 (entry 3 .s1 .family)).length ∧
    ([entry 517 .s1 .family].find? fun e => e.pupil = (517#16).toNat && e.date = 9264) = some (entry 517 .s1 .family) := by
  decide +kernel

/-- No date is a field of zeros, whose month is 0. -/
theorem witness_a_field_that_names_no_date : ∀ d, d ≤ 36524 → noDate ≠ dateField d := by
  intro d _ h
  have month : toBcd (monthOf d) = 0#8 := (congrArg DateField.month h).symm
  have small : monthOf d < 13 := by
    unfold monthOf
    have below : ∀ (p : Nat → Bool) (n : Nat), 0 < n → largestBelow p n < n := by
      intro p n
      induction n with
      | zero => intro h; omega
      | succ n ih =>
        intro _
        unfold largestBelow
        split
        · omega
        · by_cases hn : n = 0
          · subst hn; simp [largestBelow]
          · exact Nat.lt_succ_of_lt (ih (Nat.pos_of_ne_zero hn))
    exact below _ 13 (by decide)
  have one : 1 ≤ monthOf d := by
    unfold monthOf
    have found : ∀ (p : Nat → Bool) (n k : Nat), k < n → p k = true → k ≤ largestBelow p n := by
      intro p n
      induction n with
      | zero => intro k h; omega
      | succ n ih =>
        intro k hk hp
        unfold largestBelow
        split
        · omega
        · rcases Nat.lt_succ_iff_lt_or_eq.mp hk with h | h
          · exact ih k h hp
          · subst h; simp_all
    refine found _ 13 1 (by decide) ?_
    have : dayNumber (yearOf d) 1 1 ≤ d := by
      unfold yearOf
      have holds : ∀ (p : Nat → Bool) (n : Nat), p 0 = true → p (largestBelow p n) = true := by
        intro p n hp
        induction n with
        | zero => exact hp
        | succ n ih =>
          unfold largestBelow
          split
          · assumption
          · exact ih
      simpa using holds (fun y => dayNumber y 1 1 ≤ d) 100 (by simp [dayNumber, daysBeforeMonth])
    simpa using this
  revert month
  generalize monthOf d = m at small one
  intro month
  have all : ∀ m : Fin 13, 1 ≤ m.val → toBcd m.val ≠ 0#8 := by decide
  exact all ⟨m, small⟩ one month

/-- A queue of 192 LATE notices of 192 pupils, all READY. -/
def fullQueue : List Notice :=
  (List.range 192).map fun n =>
    { slot := n, creation := n, kind := .late .s1 6 false, pupil := n, number := 1, date := 9264, state := .ready,
      attempts := 0 }

/-- An offer for a pupil of today. -/
def offered (pupil : Nat) (kind : NoticeKind) : Offer :=
  { kind := kind, pupil := pupil, number := 1, date := 9264, release := none }

theorem witness_offers_are_created_evicted_or_dropped :
    let s := (dayAt 0).withNotices { State.reset.notices with list := fullQueue }
    s.noticesOk = true ∧ (s.notices.list.all fun n => n.slot < 192) = true ∧ 192 ≤ s.notices.list.length ∧
    (∃ n ∈ s.notices.list, n.kind.index = (offered 191 (.late .s1 9 true)).kind.index ∧
      n.kind.session = (offered 191 (.late .s1 9 true)).kind.session ∧ n.pupil = 191 ∧ n.date = 9264) ∧
    (∀ n ∈ s.notices.list, n.pupil ≠ 192) ∧ classPlace 0 (.absence .s1) < classPlace 0 (.late .s1 6 false) ∧
    (∀ n ∈ s.notices.list, classPlace 0 n.kind ≤ classPlace 0 (.pattern 5)) ∧
    (State.reset.noticesOk = true ∧ State.reset.notices.list.length < 192) := by decide +kernel

/-- Notices of the school in every state. -/
def mixed : State :=
  noticed 35600 .unexplained [notice 3 3319 (.late .s1 71 true) .ready, notice 4 3320 (.arrived .s1) .ready,
    notice 5 3321 (.absence .s1) (.handed { date := 9264, seconds := 35000 } 599 .none),
    notice 6 3322 (.pattern 5) (.held 35600)]

theorem witness_withdrawals_reach_the_absence_notice :
    noticesApart mixed.notices.list = true ∧
    mixed.notices.list = mixed.notices.list.take 2 ++
      notice 5 3321 (.absence .s1) (.handed { date := 9264, seconds := 35000 } 599 .none) :: mixed.notices.list.drop 3 ∧
    (∀ n ∈ mixed.notices.list, n.kind ≠ .absence .s2) ∧
    noticesApart [notice 0 0 (.absence .s1) (.held 34801), notice 1 1 (.absence .s2) .ready] = true ∧
    mixed.notices.counters.withdrawn < 65535 := by decide +kernel

/-- R164: of two withdrawals of a HANDED notice the later decides its mode, and a HELD one is removed and counted. -/
theorem test_withdrawals :
    let absence (state : NoticeState) := (noticed 35600 .unexplained [notice 5 3321 (.absence .s1) state]).notices
    let handed (m : Supersede) : NoticeState := .handed { date := 9264, seconds := 35000 } 599 m
    ((absence (handed .none)).withdraw 517 9264 .s1 true).list.map Notice.state = [handed .withArrival] ∧
    ((absence (handed .withArrival)).withdraw 517 9264 .s1 false).list.map Notice.state = [handed .silent] ∧
    ((absence (.held 36000)).withdraw 517 9264 .s1 true).list = [] ∧
    ((absence (.held 36000)).withdraw 517 9264 .s1 true).counters.withdrawn = 11 := by decide +kernel

theorem witness_notices_are_taken_by_rank :
    mixed.takesFrames = true ∧ mixed.rolling = false ∧ mixed.notices.hold = false ∧
    (mixed.withNotices { mixed.notices with hold := true }).notices.hold = true ∧
    ((dayAt 0).notices.list.filter Notice.isReady).length = 0 ∧ (mixed.notices.list.filter Notice.isReady).length ≠ 0 ∧
    (mixed.notices.list.filter Notice.isHanded).length < 8 ∧ noticesApart mixed.notices.list = true ∧
    mixed.notices.list = [notice 3 3319 (.late .s1 71 true) .ready] ++ notice 4 3320 (.arrived .s1) .ready ::
      mixed.notices.list.drop 2 ∧ kindRank 0 (.arrived .s1) < kindRank 0 (.late .s1 71 true) ∧
    8 ≤ ((List.range 8).map fun n => notice n n (.late .s1 6 false) (.handed { date := 0, seconds := 0 } 0 .none)).length ∧
    (1 < (2#8 : Byte).toNat ∧ (1#8 : Byte).toNat ≤ 1 ∧ 6 ≤ (6#8 : Byte).toNat ∧ (5#8 : Byte).toNat = (5 : Fin 6).val) := by
  decide +kernel

theorem witness_outcomes_settle_notices :
    mixed.takesFrames = true ∧ mixed.rolling = false ∧ (192 ≤ (192#8 : Byte).toNat ∧ (191#8 : Byte).toNat < 192) ∧
    (1 < (2#8 : Byte).toNat ∧ (1#8 : Byte).toNat ≤ 1) ∧
    (∀ n ∈ mixed.notices.list, n.slot = 5 → n.creation ≠ 7) ∧ mixed.noticesOk = true ∧
    (∃ n ∈ mixed.notices.list, n.slot = (6#8 : Byte).toNat ∧ n.creation = (3322#16).toNat ∧ n.isHeld = true) ∧
    (∃ n ∈ mixed.notices.list, n.slot = (4#8 : Byte).toNat ∧ n.creation = (3320#16).toNat ∧ n.isReady = true) ∧
    (∃ n ∈ mixed.notices.list, n.slot = (5#8 : Byte).toNat ∧ n.creation = (3321#16).toNat ∧ n.isHanded = true ∧
      n.isHeld = false ∧ n.kind = .absence .s1 ∧ n.mode = .none ∧ n.attempts + 1 < mixed.params.attemptLimit) ∧
    (notice 5 3321 (.absence .s1) (.handed { date := 9264, seconds := 0 } 0 .withArrival)).mode = .withArrival ∧
    (notice 5 3321 (.absence .s1) (.handed { date := 9264, seconds := 0 } 0 .silent)).mode = .silent ∧
    mixed.params.attemptLimit ≤ 2 + 1 := by decide +kernel

theorem witness_count_ups_release_and_time_out :
    let s := mixed.withCountUps
      { bells := [], waits := [], releases := [mixed.now], timeouts := [mixed.now] }
    s.blocksRun = true ∧ s.countUps.releases = mixed.now :: [] ∧ s.countUps.timeouts = mixed.now :: [] ∧
    noticesApart s.notices.list = true ∧ s.notices.counters.withdrawn + s.notices.list.length ≤ 65535 ∧
    s.notices.counters.abandoned + s.notices.list.length ≤ 65535 ∧ mixed.now.seconds = 35600 ∧
    s.params.handedTimeout * 60 = 599 + 1 := by decide +kernel

/-- An exception of a day that begins a term. -/
def termDay : CalendarException := { closed := false, termStart := true, selections := Vector.replicate 6 .byWeekday }

theorem witness_calendars_are_loaded_and_select :
    (dayAt 0).takesFrames = true ∧ (dayAt 0).rolling = false ∧ (List.replicate 42 (16#8 : Byte)).length = 42 ∧
    (List.replicate 41 (16#8 : Byte)).length ≠ 42 ∧ (16#8 : Byte).toNat ≤ 16 ∧ 16 < (17#8 : Byte).toNat ∧
    24 < (List.replicate 25 noDate).length ∧
    (let l := (List.range 24).map fun n => (9264 + n, termDay);
      l ≠ [] ∧ l.length ≤ 24 ∧ (l.map Prod.fst).Nodup ∧
        (∀ x ∈ l, (dayAt 0).days.today ≤ x.1 ∧ x.1 ≤ 36524) ∧ keysRise (dayAt 0).days.exceptions = true ∧
        (dayAt 0).days.exceptions.length + l.length ≤ 96 ∧ 96 < 73 + l.length) ∧
    ([0, 36524] ≠ [] ∧ [0, 36524].Nodup ∧ ∀ d ∈ [0, 36524], d ≤ 36524) ∧
    (1 < (2#8 : Byte).toNat ∧ 17 < (18#8 : Byte).toNat ∧ [9264, 36524].length + 1 + 21 ≤ 24 ∧
      (List.replicate 23 noDate).length + 1 + 0 ≤ 24) := by decide +kernel

/-- A date of CALENDAR_LOAD that is none, and one that lies before today or repeats an earlier one. -/
theorem witness_bad_dates_of_a_calendar :
    (∀ d, 9264 ≤ d → d ≤ 36524 → d ∉ [9264] → noDate ≠ dateField d) ∧
    ∀ d, 9264 ≤ d → d ≤ 9265 → d ∉ [9264, 9265] → dateField 9264 ≠ dateField d := by
  refine ⟨fun d _ h _ => witness_a_field_that_names_no_date d h, fun d h1 h2 h3 => ?_⟩
  obtain rfl | rfl : d = 9264 ∨ d = 9265 := by omega
  · exact absurd (by decide) h3
  · exact absurd (by decide) h3

/-! ### Replies to CALENDAR_LOAD -/

theorem test_refused_calendars :
    let x (n : Nat) : ExceptionItem := { date := dateField n, closed := 0#8, termStart := 1#8
                                         selections := Vector.replicate 6 17#8 }
    [said (left (.calendarLoad (.exceptions [x 9264, x 9263])) (dayAt 0)),
      said (left (.calendarLoad (.exceptions [x 9264, x 9265, x 9264])) (dayAt 0)),
      said (left (.calendarLoad (.exceptions [{ x 9264 with date := noDate }])) (dayAt 0)),
      said (left (.calendarLoad (.exceptions [x 9264, { x 9265 with selections := #v[0#8, 0#8, 0#8, 0#8, 0#8, 18#8] }]))
        (dayAt 0)),
      said (left (.calendarLoad (.remove [dateField 9263, dateField 9263])) (dayAt 0))] =
      [[3#8, 2#8], [3#8, 3#8], [3#8, 1#8], [3#8, 2#8], [3#8, 2#8]] := by decide +kernel

theorem witness_rollovers_turn_the_day :
    (turning 2 0).blocksRun = true ∧ (turning 2 0).days.rollover = some (rollover 2 0) ∧ (rollover 2 0).stage = 2 ∧
    (turning 2 0).notices.counters.expired + (turning 2 0).notices.list.length ≤ 65535 ∧
    (turning 4 2399).days.rollover = some (rollover 4 2399) ∧ (rollover 4 2399).stage = 4 ∧
    (turning 5 2400).days.rollover = some (rollover 5 2400) ∧ (turning 6 2400).days.rollover = some (rollover 6 2400) := by
  decide +kernel

/-- A machine whose signature is gone. -/
def forgotten (mains resetLow : Bool) : State :=
  (dayAt 0).withPower { (dayAt 0).power with mains := mains, resetLow := resetLow, signature := false }

theorem witness_cold_starts_give_cold_values :
    (forgotten false false).power.signature = false ∧ (forgotten false false).power.mains = false ∧
    (forgotten false false).power.resetLow = false ∧ (forgotten true true).power.mains = true ∧
    (forgotten true true).power.resetLow = true ∧ (forgotten true false).blocksRun = true ∧
    ((forgotten true false).withLink { (dayAt 0).link with startRequested := true }).link.startRequested = true := by
  decide +kernel

/-- The supply and RESET_N of a day. -/
def powered (mains resetLow : Bool) : State :=
  (dayAt 0).withPower { (dayAt 0).power with mains := mains, resetLow := resetLow }

theorem witness_power_and_reset_stop_the_blocks :
    (powered true false).power.mains = true ∧ (powered true false).power.resetLow = false ∧
    (powered false false).power.mains = false ∧ (powered false false).power.resetLow = false ∧
    (powered false true).power.mains = false ∧ (powered false true).power.resetLow = true ∧
    (left .batteryLoss (powered true false)).power.battery = false := by decide +kernel

theorem witness_starts_keep_retained_state :
    (powered false false).power.signature = true ∧ (powered true true).power.resetLow = true ∧
    ((powered true false).withLink { (dayAt 0).link with startRequested := true }).blocksRun = true ∧
    mixed.notices.counters.withdrawn + mixed.notices.list.length ≤ 65535 ∧ (dayAt 0).takesFrames = true ∧
    ((replyingTo (dayAt 0) true).linkUp = true ∧
      (replyingTo (dayAt 0) true).link.inHand = some { kind := 0x81#8, payload := [0#8], thenStart := true }) := by
  decide +kernel

theorem witness_reads_answer_with_the_state :
    rich.takesFrames = true ∧ (2400 ≤ (2400#16).toNat ∧ (2399#16).toNat < 2400) ∧ 24 < (25#8 : Byte).toNat ∧
    (1 ≤ (24#8 : Byte).toNat ∧ (24#8 : Byte).toNat ≤ 24 ∧ (2376#16).toNat + (24#8 : Byte).toNat ≤ 2400) ∧
    2400 < (2377#16).toNat + (24#8 : Byte).toNat ∧ 6 ≤ (6#8 : Byte).toNat ∧ 32 < (33#8 : Byte).toNat ∧
    (32#8 : Byte).toNat ≤ 32 ∧ (rich.arrivals.log.map LogRecord.sequence = [(0#16).toNat] ∧
      (1#16).toNat = rich.arrivals.nextSequence ∧ (2#16).toNat ≠ rich.arrivals.nextSequence) ∧
    95 < (96#8 : Byte).toNat ∧ (95#8 : Byte).toNat ≤ 95 ∧ rich.days.closed = none ∧ 1 < (2#8 : Byte).toNat ∧
    (left .rolloverStage2 (turning 2 0)).days.closed.isSome = true := by decide +kernel

/-! ### Replies of refused loads (R13, R41, R42, R61, R70, R77, R173, R174) -/

theorem test_refused_loads :
    [said (left (.planLoad 0#8 [({ time := 39000, kind := .registerClose .s1, zones := 0#8, pattern := 0 } : PlanEntry).item])
        (dayAt 0)),
      said (left (.planLoad 16#8 []) (dayAt 0)),
      said (left (.planLoad 0#8 (List.replicate 41 (PlanEntry.item { time := 0, kind := .plain, zones := 0#8, pattern := 0 })))
        (dayAt 0)),
      said (left (.trackInsert 3#8 [assembly, { assembly with time := timeField 35100 }]) delayed),
      said (left (.trackInsert 0#8 [assembly]) delayed),
      said (left (.patternLoad 0#8 [stepItem 8#8 15#8, stepItem 9#8 1#8]) (dayAt 0)),
      said (left (.patternLoad 0#8 (List.replicate 9 (stepItem 8#8 15#8))) (dayAt 0)),
      said (left (.ringNow 0#8 16#8) (dayAt 0)),
      said (left (.calendarLoad (.weekday (List.replicate 41 16#8 ++ [17#8]))) (dayAt 0)),
      said (left (.calendarLoad (.other 3#8 [])) (dayAt 0)), said (left (.calendarRead (.other 2#8 none)) (dayAt 0))] =
      [[3#8, 1#8], [3#8, 0#8], [3#8, 41#8], [3#8, 2#8], [6#8], [3#8, 2#8], [3#8, 9#8], [3#8, 1#8], [3#8, 42#8], [3#8, 0#8],
        [3#8, 0#8]] := by decide +kernel

theorem test_refused_mark_sets :
    [said (left (.markSet 2400#16 1#8 3#8 1#8 0#8 0#8 0#8) (school 32000 .none)),
      said (left (.markSet 517#16 3#8 4#8 7#8 0#8 9#8 9#8) (school 32000 .none)),
      said (left (.markSet 517#16 1#8 4#8 7#8 0#8 9#8 9#8) (school 32000 .none)),
      said (left (.markSet 517#16 1#8 2#8 4#8 0#8 9#8 9#8) (school 32000 .none)),
      said (left (.markSet 517#16 1#8 3#8 2#8 0#8 9#8 9#8) (school 32000 .none)),
      said (left (.markSet 517#16 1#8 3#8 4#8 0#8 6#8 9#8) (school 32000 .none)),
      said (left (.markSet 517#16 1#8 3#8 4#8 0#8 5#8 2#8) (school 32000 .none)),
      said (left (.markSet 516#16 1#8 3#8 4#8 0#8 5#8 0#8) (school 32000 .none)),
      said (left (.markSet 517#16 2#8 3#8 4#8 0#8 5#8 0#8) (school 32000 .none))] =
      [[3#8, 0#8], [3#8, 1#8], [3#8, 2#8], [3#8, 3#8], [3#8, 4#8], [3#8, 5#8], [3#8, 6#8], [4#8], [6#8]] := by
  decide +kernel

end Sys2Proof.Tests
end

section
/-! PROOFS. The Sweep Engine (R124 to R130, R176): what a dispatch, a visit and a completion leave, each said once as an
equation, and the statement about them. -/

namespace Sys2Proof.Proofs.Sweeping

open Sys2Proof.Machine

/-! ### Dispatch (R124) -/

/-- R124: with no flight the engine goes on to the oldest request, if there is one. -/
theorem dispatchOldest_idle {w : Sweep} (h : w.flight = none) (now : Stamp) :
    w.dispatchOldest now =
      { w with queue := w.queue.drop 1, flight := (w.queue.head?).map fun r => r.dispatch now } := by
  obtain ⟨queue, flight, last⟩ := w
  subst h
  cases queue <;> rfl

theorem execSweepDispatch_idle {s : State} {r : SweepRequest} {rest : List SweepRequest} (hb : s.blocksRun = true)
    (hf : s.sweep.flight = none) (hq : s.sweep.queue = r :: rest) :
    execSweepDispatch s =
      .next (s.withSweep { s.sweep with queue := rest, flight := some (r.dispatch s.now) }) := by
  rw [execSweepDispatch, event_due hb (by simp [hf, hq]), dispatchOldest_idle hf, hq]
  rfl

/-! ### The gates of a visit and of a completion (R125, R130) -/

theorem walking_iff (f : SweepFlight) : f.walking = true ↔ f.position < 2400 := decide_eq_true_iff

theorem execSweepVisit_walking {s : State} {f : SweepFlight} (hb : s.blocksRun = true) (hf : s.sweep.flight = some f)
    (hw : f.position < 2400) : execSweepVisit s = .next (s.visit f) := by
  have due : s.sweep.walking true = true := by simp [Sweep.walking, hf, (walking_iff f).2 hw]
  rw [execSweepVisit, event_due hb due, State.onFlight, hf]

theorem execSweepComplete_walked {s : State} {f : SweepFlight} (hb : s.blocksRun = true)
    (hf : s.sweep.flight = some f) (hw : 2400 ≤ f.position) : execSweepComplete s = .next (s.completeSweep f) := by
  have done : f.walking = false := Bool.eq_false_iff.2 fun h => by have := (walking_iff f).1 h; omega
  have due : s.sweep.walking false = true := by simp [Sweep.walking, hf, done]
  rw [execSweepComplete, event_due hb due, State.onFlight, hf]

/-! ### The mark and the book of a visit (R16, R127) -/

/-- R11, R16: a SWEEP change of a NONE mark writes the record alone; it is never charged and asks for no notice. -/
theorem sweepChange_of_none {p : Pupil} {k : Session} (hv : (p.mark k).value = .none) (s : State) (i : Nat)
    (reason : Option Reason) :
    s.sweepChange i p k reason = s.withRoll (keyPut i ((p.reverse (p.mark k)).withMark k
      { value := if reason.isSome then .authorised else .unexplained, source := .sweep, minutes := 0, charge := 0,
        counted := false, explained := false, reason := reason, delivered := (p.mark k).delivered }) s.roll) := by
  have stays (v : MarkValue) : (p.mark k).leavesUnexplained v = false := by simp [Mark.leavesUnexplained, hv]
  have applies : p.sweepApplies k = true := decide_eq_true hv
  rw [State.sweepChange, if_pos applies, State.replaceMark]
  simp [stays, sweepWrite, Pupil.tallied, Pupil.written, State.putPupil]

/-- R127: the book's entry for the pupil and date is flagged USED, and nothing else of the book changes. -/
theorem flagBook_used (s : State) (i d : Nat) :
    s.flagBook i d true false = s.withBook (s.book.map fun e =>
      if e.pupil = i ∧ e.date = d then { e with used := true } else e) := by
  simp [State.flagBook]

theorem offersAbsence_eq_false {s : State} {p : Pupil}
    (h : p.contact = false ∨ s.params.absenceNotices[p.track] = false) : s.offersAbsence p = false := by
  simpa only [State.offersAbsence, Bool.and_eq_false_iff] using h

theorem offersAbsence_eq_true {s : State} {p : Pupil} (hc : p.contact = true)
    (hn : s.params.absenceNotices[p.track] = true) : s.offersAbsence p = true := by
  simp only [State.offersAbsence, hc, hn, Bool.and_self]

/-- R128: where no ABSENCE offer is made, the change alone stands. -/
theorem afterApplied_unoffered {s : State} {p : Pupil} (h : s.offersAbsence p = false) (i : Nat) (k : Session)
    (reason : Option Reason) :
    (s.sweepChange i p k reason).afterApplied i p k .unexplained = s.sweepChange i p k reason := by
  have same : (s.sweepChange i p k reason).offersAbsence p = false := by simpa [State.offersAbsence] using h
  simp [State.afterApplied, same]

/-- R128: where an ABSENCE offer is made, it follows the change. -/
theorem afterApplied_offered {s : State} {p : Pupil} (h : s.offersAbsence p = true) (i : Nat) (k : Session)
    (reason : Option Reason) :
    (s.sweepChange i p k reason).afterApplied i p k .unexplained =
      (s.sweepChange i p k reason).offer (s.absenceOffer i p k) := by
  have same : (s.sweepChange i p k reason).offersAbsence p = true := by simpa [State.offersAbsence] using h
  simp [State.afterApplied, same, State.absenceOffer]

/-! ### A visit (R125 to R129) -/

/-- R125: the flight moves on where it stands, in a state whose engine is still as it was. -/
theorem setFlight_eq {s u : State} (h : u.sweep = s.sweep) (f : SweepFlight) :
    u.setFlight f = u.withSweep { s.sweep with flight := some f } := by
  rw [State.setFlight, h]

/-- R126: an empty slot and a pupil of another track are passed by. -/
theorem visit_passed {s : State} {f : SweepFlight}
    (h : ∀ p, s.pupilAt f.position = some p → p.track ≠ f.request.track) :
    s.visit f = s.setFlight (f.advance f.counts) := by
  have none_swept : s.sweptPupil f = none := by
    unfold State.sweptPupil
    split
    next p hp => exact if_neg (h p hp)
    next => rfl
  rw [State.visit, none_swept]

section Reached

variable {s : State} {f : SweepFlight} {p : Pupil} (hp : s.pupilAt f.position = some p)
  (ht : p.track = f.request.track)
include hp ht

/-- R126: a pupil of the sweep's track is reached. -/
theorem visit_reached :
    s.visit f = (s.reachPupil f.position p f.request.session).setFlight
      (f.advance (f.counts.tally (p.sweepApplies f.request.session) (s.offersAbsence p)
        (s.proposal f.position f.request.session))) := by
  have swept : s.sweptPupil f = some p := by simp only [State.sweptPupil, hp, if_pos ht]
  rw [State.visit, swept]

/-- R16, R129: a mark that is not NONE is left, whatever the proposal. -/
theorem visit_left (hv : (p.mark f.request.session).value ≠ .none) :
    s.visit f = s.setFlight (f.advance { f.counts with left := f.counts.left + 1 }) := by
  have refused : p.sweepApplies f.request.session = false := decide_eq_false hv
  have counted (offered : Bool) (q : Proposal) :
      f.counts.tally false offered q = { f.counts with left := f.counts.left + 1 } := by cases q <;> rfl
  rw [visit_reached hp ht, State.reachPupil, refused, counted]
  rfl

/-- R127 to R129: a NONE mark is changed as the proposal says, and what follows the change follows. -/
theorem visit_settled (hv : (p.mark f.request.session).value = .none) {q : Proposal}
    (hq : s.proposal f.position f.request.session = q) :
    s.visit f = ((s.sweepChange f.position p f.request.session q.reason).afterApplied f.position p
      f.request.session q).withSweep { s.sweep with
        flight := some (f.advance (f.counts.tally true (s.offersAbsence p) q)) } := by
  have applies : p.sweepApplies f.request.session = true := decide_eq_true hv
  rw [visit_reached hp ht, State.reachPupil, applies, hq, if_pos rfl, setFlight_eq (s := s)]
  simp

end Reached

/-! ### The proposal (R127) -/

theorem proposal_offsite {s : State} {i : Nat} {e : OffsiteEntry} (ho : s.offsiteEntry i = some e) (k : Session) :
    s.proposal i k = .offsite e.reason := by
  simp only [State.proposal, ho]

theorem proposal_book {s : State} {i : Nat} {k : Session} {b : BookEntry} (ho : s.offsiteEntry i = none)
    (hc : s.coveringEntry i k = some b) : s.proposal i k = .book b.reason := by
  simp only [State.proposal, ho, hc]

theorem proposal_unexplained {s : State} {i : Nat} {k : Session} (ho : s.offsiteEntry i = none)
    (hc : s.coveringEntry i k = none) : s.proposal i k = .unexplained := by
  simp only [State.proposal, ho, hc]

/-! ### Completion (R130, R176) -/

/-- R130: the result is kept and the next request is dispatched. -/
theorem completeSweep_sweep (s : State) (f : SweepFlight) :
    (s.completeSweep f).sweep =
      { queue := s.sweep.queue.drop 1, flight := (s.sweep.queue.head?).map fun r => r.dispatch s.now,
        last := some (f.result s.now) } := by
  simp [State.completeSweep, State.judgeStage1_eq, dispatchOldest_idle]

/-- R176: the queue and the flight that a completion leaves are both empty just where no request waited. -/
theorem none_left_iff (queue : List SweepRequest) (now : Stamp) :
    (queue.drop 1 = [] ∧ (queue.head?).map (fun r => r.dispatch now) = none) ↔ queue = [] := by
  cases queue with
  | nil => simp
  | cons r rest => simp

/-- R53, R130, R176: all that a completion changes: the session, SWEEP_DONE, the engine and the stage of a rollover. -/
theorem completeSweep_eq (s : State) (f : SweepFlight) :
    s.completeSweep f = (((s.withPlan f.request.track
        ((s.plan f.request.track).closeSwept f.request.session)).withLink
      { s.link with raised := s.link.raised ||| 0x02#8 }).withSweep (s.completeSweep f).sweep).withDays { s.days with
        rollover := s.days.rollover.map fun w =>
          if w.stage = 1 ∧ s.sweep.queue = [] then { w with stage := 2 } else w } := by
  rw [completeSweep_sweep, State.completeSweep, State.judgeStage1_eq]
  simp only [State.sweepsDone_iff, State.withSweep_sweep, dispatchOldest_idle, none_left_iff,
    State.raise_sweep, State.withPlan_sweep]
  rfl

/-! ### The statement -/

/-- Settles O46: each clause is the equation of its command's meaning above. -/
theorem sweepsSettleMarks : Obligations.sweeps_settle_marks := by
  intro s hb zero began
  refine ⟨fun r rest hf hq => execSweepDispatch_idle hb hf hq, fun f hf hw => ?visit, fun f hf hw => ?complete⟩
  case complete =>
    have sweep := completeSweep_sweep s f
    refine ⟨_, execSweepComplete_walked hb hf hw, completeSweep_eq s f, ?_⟩
    rw [sweep]
    exact ⟨rfl, rfl, rfl⟩
  case visit =>
    intro k i moved
    have run : exec .sweepVisit s = .next (s.visit f) := execSweepVisit_walking hb hf hw
    refine ⟨fun h => ?passed, fun p hp ht => ?reached⟩
    case passed => rw [run, visit_passed h]; rfl
    intro old settled out covering
    refine ⟨fun hv => ?left, fun hv => ?settled⟩
    case left => rw [run, visit_left hp ht hv]; rfl
    have settled_eq (reason : Option Reason) : s.sweepChange i p k reason =
        settled (if reason.isSome then .authorised else .unexplained) reason := sweepChange_of_none hv s i reason
    have covering_eq : s.coveringEntry i k = covering := by
      rw [State.coveringEntry_eq]
      exact congrArg (Option.filter · _) (funext fun e => Scope.covers_eq e.scope k)
    refine ⟨fun e ho => ?offsite, fun b ho hc => ?book, fun ho hc =>
      ⟨fun silent => ?unoffered, fun contact notices => ?offered⟩⟩
    case offsite =>
      rw [run, visit_settled hp ht hv (proposal_offsite ho k), settled_eq]
      rfl
    case book =>
      rw [run, visit_settled hp ht hv (proposal_book ho (covering_eq.trans hc)), settled_eq, State.afterApplied,
        flagBook_used]
      rfl
    case unoffered =>
      have unoffered := offersAbsence_eq_false silent
      rw [run, visit_settled hp ht hv (proposal_unexplained ho (covering_eq.trans hc)),
        afterApplied_unoffered unoffered, settled_eq, unoffered]
      rfl
    case offered =>
      have offered := offersAbsence_eq_true contact notices
      rw [run, visit_settled hp ht hv (proposal_unexplained ho (covering_eq.trans hc)),
        afterApplied_offered offered, settled_eq, offered]
      rfl

end Sys2Proof.Proofs.Sweeping
end
